-- ==== Sys2Proof/Word.lean ====
section
/-! DEFINITION. Word.lean: the words of the part and their plainest arithmetic. -/

namespace Sys2Proof

/-- A byte of exchange memory. -/
abbrev Byte := BitVec 8

/-- A 16-bit word: a register value (Table 10.5) or a word of the trim store (R13). -/
abbrev Half := BitVec 16

/-- A stored time of one of the two free-running 32-bit counts (Section 0.5.5). -/
abbrev Time := BitVec 32

/-- Section 0.5.5: the time elapsed since a stored time, the count less the stored time modulo 2^32. -/
def elapsed (now start : Time) : Int := ((now - start).toNat : Int)

end Sys2Proof
end

