-- ==== Sys2Proof/Syntax.lean ====
section
/-! DEFINITION. Syntax.lean: the names of the part's inputs, wheel ends, channels and valves, and its 41 commands. -/

namespace Sys2Proof

/-- Table 1.1: the nine inputs, in input index order. -/
inductive Input where
  | pc | pres | bl | br | bf | pdFront | pdLeft | pdRight | ay
  deriving DecidableEq, Repr

/-- Table 4.1: the six wheel ends, in wheel end index order. -/
inductive Wheel where
  | a1l | a1r | a2l | a2r | a3l | a3r
  deriving DecidableEq, Repr

/-- R74: the three modulator channels, coded FRONT 0, LEFT 1, RIGHT 2. -/
inductive Channel where
  | front | left | right
  deriving DecidableEq, Repr

/-- The two valves of a channel (Table 0.1). -/
inductive Valve where
  | inlet | outlet
  deriving DecidableEq, Repr

/-- R105: what a valve driver monitor indicates. -/
inductive Indication where
  | ok | openLoad | short
  deriving DecidableEq, Repr

/-- Table 4.1: what a wheel end's sensor circuit monitor reads. -/
inductive Circuit where
  | closed | opened
  deriving DecidableEq, Repr

/-- R159, R171: the three registers whose writes are ignored. -/
inductive ReadOnlyRegister where
  | ident | health | attnPoll
  deriving DecidableEq, Repr

/-- One value for each wheel end. -/
structure PerWheel (α : Type) where
  a1l : α
  a1r : α
  a2l : α
  a2r : α
  a3l : α
  a3r : α
  deriving DecidableEq, Repr

/-- The commands, one constructor for each row of the opcode table. `dt` is the time in microseconds that has
passed since the command before it (log 1). -/
inductive Instr where
  /-- R167: power-on reset. -/
  | powerOnReset (dt : Nat)
  /-- R14: nRESET is asserted. -/
  | nresetAsserted (dt : Nat)
  /-- R14: nRESET is released. -/
  | nresetReleased (dt : Nat)
  /-- R15: the calibration load completes. -/
  | loadCompletion (dt : Nat)
  /-- R4: a sample of one input completes with its raw counts. -/
  | sampleCompletion (dt : Nat) (input : Input) (counts : BitVec 12)
  /-- R7: the stale timer of an input expires. -/
  | staleTimerExpiry (dt : Nat) (input : Input)
  /-- R8: the recovery timer of an input expires. -/
  | recoveryTimerExpiry (dt : Nat) (input : Input)
  /-- R12: the section timer of SFE expires. -/
  | sfeSectionTimerExpiry (dt : Nat)
  /-- R19: the LDU period expires. -/
  | lduPeriodExpiry (dt : Nat)
  /-- R51: the move timer of LFC expires. -/
  | moveTimerExpiry (dt : Nat)
  /-- R58: the measurement window expires, with what the six circuit monitors read (R66). -/
  | windowExpiry (dt : Nat) (circuits : PerWheel Circuit)
  /-- R59: an edge arrives from a wheel end's sensor ring. -/
  | edgeArrival (dt : Nat) (wheel : Wheel)
  /-- R103: the outlet of a channel opens one dead band after its inlet closed for a dump. -/
  | dumpOutletOpening (dt : Nat) (channel : Channel)
  /-- R84: the hold timer of a channel expires. -/
  | holdTimerExpiry (dt : Nat) (channel : Channel)
  /-- R86: the step timer of a channel expires. -/
  | stepTimerExpiry (dt : Nat) (channel : Channel)
  /-- R97: the valve period expires. -/
  | valvePeriodExpiry (dt : Nat)
  /-- R101: a due pulse of a channel opens at its opening time. -/
  | pulseOpening (dt : Nat) (channel : Channel)
  /-- R102: the pulse of a channel ends. -/
  | pulseEnd (dt : Nat) (channel : Channel)
  /-- R105: a valve driver monitor reports its indication. -/
  | driverReport (dt : Nat) (channel : Channel) (valve : Valve) (indication : Indication)
  /-- R117: the rollover evaluation period expires. -/
  | evaluationExpiry (dt : Nat)
  /-- R136: a character arrives on the tyre receiver line, with its parity and stop indications. -/
  | characterArrival (dt : Nat) (data : Byte) (parityGood stopGood : Bool)
  /-- R137: the gap timer expires. -/
  | gapTimerExpiry (dt : Nat)
  /-- R137: CD is deasserted. -/
  | cdDeasserted (dt : Nat)
  /-- R143: the scan period expires. -/
  | silenceScan (dt : Nat)
  /-- R158: a READ transaction, or a part of one: the host asserts the select line (or goes on with the transaction in
  progress), sends `bytes` (the command byte 0x6C, two address bytes, then one for each data byte it reads), and
  deasserts the line or leaves it asserted. -/
  | read (dt : Nat) (select : Bool) (bytes : List Byte) (ends : Bool)
  /-- R158: a WRITE transaction, or a part of one: the same with the command byte 0x6E and the data bytes written. -/
  | write (dt : Nat) (select : Bool) (bytes : List Byte) (ends : Bool)
  /-- R172: a read of HEALTH. -/
  | healthRead (dt : Nat)
  /-- R169: a read of ATTN_POLL. -/
  | attnPoll (dt : Nat)
  /-- R170: a write of ATTN_END. -/
  | attnEnd (dt : Nat) (value : Half)
  /-- R171: a write of ATTN_MASK. -/
  | attnMaskWrite (dt : Nat) (value : Half)
  /-- R163: a write of TAKE with bit 0. -/
  | takeVehicle (dt : Nat)
  /-- R163: a write of TAKE with bit 1. -/
  | takeLoad (dt : Nat)
  /-- R163: a write of TAKE with bit 2. -/
  | takeSlip (dt : Nat)
  /-- R163: a write of TAKE with bit 3. -/
  | takeValve (dt : Nat)
  /-- R163: a write of TAKE with bit 4. -/
  | takeRoll (dt : Nat)
  /-- R163, R147: a write of TAKE with bit 5. -/
  | takeTyre (dt : Nat)
  /-- R163: a write of TAKE with bit 6. -/
  | takeAir (dt : Nat)
  /-- R175: a write of TAKE with bit 7. -/
  | takeReport (dt : Nat)
  /-- R163, R111: a write of TAKE with bit 8. -/
  | takeClearFaults (dt : Nat)
  /-- R159: a write of a register whose writes are ignored. -/
  | registerWriteIgnored (dt : Nat) (register : ReadOnlyRegister) (value : Half)
  /-- R136: CD is asserted. -/
  | cdAsserted (dt : Nat)
  deriving DecidableEq, Repr

end Sys2Proof
end

