-- ==== Sys2Proof/Config.lean ====
section
/-! DEFINITION. Config.lean: the free values, which the manual leaves open. Each is a constant with no body. -/

namespace Sys2Proof

/-- R124: the sign of a test that starts while Af is 0 (true POSITIVE). The manual sets the test sign "from the
sign of Af" and states no sign for 0. Free value (DESIGN CHOICE: none is chosen, log 19). -/
opaque Config.freeTestSign : Nat → Bool

/-- R62: the bound S × 100 / (time since the last edge) when that time is 0 µs. The manual states no quotient by 0.
Free value (DESIGN CHOICE: none is chosen, log 20); R62 keeps the speed at or below the previous one whatever it is. -/
opaque Config.freeSpeedBound : Nat → Nat

end Sys2Proof
end

