-- ==== Sys2Proof/Machine/State.lean ====
section
/-! DEFINITION. Machine/State.lean: everything the manual gives the part, as plain data, and the part right after
power-on reset. Numbers the manual computes with are integers (R1); counts that saturate are natural numbers; stored
times of the two free-running counts are 32-bit words; a running timer holds the time at which it is due, in
microseconds since the reset (log 3). -/

namespace Sys2Proof.Machine

/-! ### Fixed collections -/

/-- One value for each input of Table 1.1. -/
structure PerInput (α : Type) where
  pc : α
  pres : α
  bl : α
  br : α
  bf : α
  pdFront : α
  pdLeft : α
  pdRight : α
  ay : α
  deriving DecidableEq, Repr

/-- One value for each channel. -/
structure PerChannel (α : Type) where
  front : α
  left : α
  right : α
  deriving DecidableEq, Repr

/-- Table 11.1: the eight attention levels, 0 to 7. -/
inductive Level where
  | fault | roll | slip | tyre | journal | supply | take | demand
  deriving DecidableEq, Repr

/-- One value for each attention level. -/
structure PerLevel (α : Type) where
  fault : α
  roll : α
  slip : α
  tyre : α
  journal : α
  supply : α
  take : α
  demand : α
  deriving DecidableEq, Repr

/-- Table 10.6: the nine requests, bits 0 to 8 of TAKE. -/
inductive Request where
  | vehicle | load | slip | valve | roll | tyre | air | report | clearFaults
  deriving DecidableEq, Repr

/-- One value for each request. -/
structure PerRequest (α : Type) where
  vehicle : α
  load : α
  slip : α
  valve : α
  roll : α
  tyre : α
  air : α
  report : α
  clearFaults : α
  deriving DecidableEq, Repr

/-! ### Sensor front end -/

/-- R2: the states of an entry of the sensor value record. -/
inductive Validity where
  | invalid | valid | stale | fault
  deriving DecidableEq, Repr

/-- R2: an entry of the sensor value record. `timer` is the stale timer in INVALID and STALE and the recovery timer
in FAULT. -/
structure Entry where
  value : Int
  counts : BitVec 12
  state : Validity
  timer : Option Nat
  recovery : Option Int
  faultCount : Nat
  deriving DecidableEq, Repr

/-- R13: a trim record. -/
structure Trim where
  offset : Int
  gain : Int
  deriving DecidableEq, Repr

/-- The sensor front end: the sensor value record (R2), the trim table (R13), the seed flag of Af (R11) and the
section timer (R12). -/
structure Sfe where
  entries : PerInput Entry
  trims : PerInput Trim
  seed : Bool
  sectionDue : Option Nat
  deriving DecidableEq, Repr

/-- R14: the calibration load; `due` is present exactly while a load is in progress. -/
structure Load where
  buffer : List Half
  due : Option Nat
  deriving DecidableEq, Repr

/-! ### Load unit -/

/-- Table 2.1: the tractor electronic link as read. -/
inductive Link where
  | good | down
  deriving DecidableEq, Repr

/-- Table 2.1: the host's wish for the lift axle. -/
inductive LiftRequest where
  | auto | lower | raise
  deriving DecidableEq, Repr

/-- Table 2.1: why De is not used. -/
inductive StaleCause where
  | noChange | timeout | linkDown
  deriving DecidableEq, Repr

/-- Table 2.1: whether De may be used, with the stale cause, which is absent while FRESH. -/
inductive Freshness where
  | fresh
  | stale (cause : StaleCause)
  deriving DecidableEq, Repr

/-- Table 2.3: where the effective demand comes from. -/
inductive Source where
  | electric | pneumatic | none
  deriving DecidableEq, Repr

/-- R18: the demand record. -/
structure Demand where
  lastStamp : Option Nat
  changeSeen : Bool
  age : Nat
  link : Link
  de : Int
  liftRead : LiftRequest
  liftHanded : LiftRequest
  freshness : Freshness
  source : Source
  mismatchStart : Option Time
  mismatch : Bool
  d : Int
  deriving DecidableEq, Repr

/-- Table 2.5: whether a load came from the bellows. -/
inductive LoadSource where
  | sensed | assumedLaden
  deriving DecidableEq, Repr

/-- R28: an axle record. -/
structure Axle where
  b : Int
  l : Int
  r : Int
  f : Int
  pAxle : Int
  source : LoadSource
  valid : Bool
  deriving DecidableEq, Repr

/-- Table 2.9: the front axle kind. -/
inductive AxleKind where
  | fixed | lift
  deriving DecidableEq, Repr

/-- Table 2.9: the load curve settings of one axle group. -/
structure Curve where
  b0 : Int
  l0 : Int
  g : Int
  lempty : Int
  lladen : Int
  e : Int
  deriving DecidableEq, Repr

/-- R35: the VEHICLE group. -/
structure VehicleGroup where
  kind : AxleKind
  bellowsUsed : Bool
  front : Curve
  rear : Curve
  circumference : Int
  teeth : Int
  fitted : PerWheel Bool
  deriving DecidableEq, Repr

/-- R36, R54: the LOAD group with the lift settings. -/
structure LoadGroup where
  demandTimeout : Int
  mismatchLimit : Int
  releaseThreshold : Int
  knee : Int
  pmax : Int
  autoMode : Bool
  raiseRatio : Int
  lowerRatio : Int
  raiseDelay : Int
  lowerDemand : Int
  loweredConfirm : Int
  raisedConfirm : Int
  moveTimeout : Int
  raisedDwell : Int
  deriving DecidableEq, Repr

/-- The load unit. `lastPeriod` is the time of the previous period expiry, from which R21 ages the demand. -/
structure Ldu where
  demand : Demand
  lastPeriod : Time
  front : Axle
  rear : Axle
  vehicle : Option VehicleGroup
  load : LoadGroup
  due : Option Nat
  deriving DecidableEq, Repr

/-! ### Lift control -/

/-- R42: the position of the lift axle as LFC knows it. -/
inductive LiftState where
  | unknown | lowered | raising | raised | lowering
  deriving DecidableEq, Repr

/-- Table 3.3: the move causes. -/
inductive MoveCause where
  | auto | hostRaise | ratio | demand | hostLower | bfInvalid | reserve | rollover
  deriving DecidableEq, Repr

/-- R52: the directions of a move. -/
inductive MoveDirection where
  | raise | lower
  deriving DecidableEq, Repr

/-- R52: the outcomes of a move. -/
inductive MoveOutcome where
  | completed | timeout | aborted
  deriving DecidableEq, Repr

/-- R42: the lift record. `valve` is the lift valve output, true when energised. -/
structure Lfc where
  state : LiftState
  valve : Bool
  request : LiftRequest
  lowRatioStart : Option Time
  dwellStart : Option Time
  moveStart : Option Time
  moveCause : MoveCause
  moveTimer : Option Nat
  lastResult : Option (MoveDirection × MoveOutcome)
  refusalCount : Nat
  timeoutCount : Nat
  deriving DecidableEq, Repr

/-! ### Wheel speed unit -/

/-- Table 4.1: the wheel sensor fault state. -/
inductive SensorState where
  | ok | fault
  deriving DecidableEq, Repr

/-- Table 4.1: the kinds of wheel sensor fault. -/
inductive WheelFault where
  | openCircuit | zeroSpeed
  deriving DecidableEq, Repr

/-- R57: the exclusion set, one membership for each reason. -/
structure Exclusion where
  notFitted : Bool
  sensorFault : Bool
  lifted : Bool
  flatTyre : Bool
  deriving DecidableEq, Repr

/-- R57: a wheel-end record. The channel of a wheel end is fixed (`Wheel.channel`). -/
structure WheelEnd where
  fitted : Bool
  edges : Nat
  firstEdge : Option Time
  lastEdge : Option Time
  circuit : Circuit
  v : Int
  c : Int
  vc : Int
  prevVc : Option Int
  aw : Int
  slip : Int
  excl : Exclusion
  included : Bool
  sensor : SensorState
  faultKind : Option WheelFault
  zeroStart : Option Time
  recoveryStart : Option Time
  faultCount : Nat
  deriving DecidableEq, Repr

/-- The wheel speed unit: the wheel-end table and the reference record (R57). -/
structure Wsu where
  wheels : PerWheel WheelEnd
  vref : Int
  candidate : Int
  includedCount : Nat
  ramp : Bool
  travel : Int
  due : Option Nat
  deriving DecidableEq, Repr

/-! ### Slip control unit -/

/-- R74: the states of a channel's anti-lock machine. -/
inductive SlipState where
  | pass | dump | hold | rebuild | off
  deriving DecidableEq, Repr

/-- R74: a slip record. -/
structure SlipRecord where
  state : SlipState
  pSlip : Int
  wheel : Option Wheel
  lock : Int
  index : Nat
  offset : Nat
  dumps : Nat
  minPd : Option Int
  episodeStart : Option Time
  holdTimer : Option Nat
  stepTimer : Option Nat
  suppressed : Bool
  deferrals : Nat
  episodes : Nat
  deriving DecidableEq, Repr

/-- R85: the part of the slope table that a channel's rebuilds use. -/
inductive Span where
  | all | lower | upper
  deriving DecidableEq, Repr

/-- R90: the SLIP group; `slope` is the slope table of R85. -/
structure SlipGroup where
  vmin : Int
  ldump : Int
  lhold : Int
  adump : Int
  areaccel : Int
  holdTime : Int
  stepTime : Int
  startIndex : Nat
  spans : PerChannel Span
  slope : List Int
  deriving DecidableEq, Repr

/-- The slip control unit. -/
structure Scu where
  channels : PerChannel SlipRecord
  group : SlipGroup
  deriving DecidableEq, Repr

/-! ### Modulator drive -/

/-- R95: whether MDU drives a channel's valves. -/
inductive Mode where
  | regulate | backup
  deriving DecidableEq, Repr

/-- Table 6.2: the BACKUP causes. -/
inductive Cause where
  | inletOpen | inletShort | outletOpen | outletShort | pdFault | tracking | sourceNone | notActive
  deriving DecidableEq, Repr

/-- R96: a cause set, one membership for each cause of Table 6.2. -/
structure CauseSet where
  inletOpen : Bool
  inletShort : Bool
  outletOpen : Bool
  outletShort : Bool
  pdFault : Bool
  tracking : Bool
  sourceNone : Bool
  notActive : Bool
  deriving DecidableEq, Repr

/-- R95: which valve of a channel is energised. -/
inductive Phase where
  | closed
  | energised (valve : Valve)
  deriving DecidableEq, Repr

/-- An opening that is due but waits for its opening time: of a period's pulse (R101) or of a dump (R103). -/
structure Opening where
  valve : Valve
  opensAt : Int
  endsAt : Int
  dump : Bool
  deriving DecidableEq, Repr

/-- R95: a channel record. Times in it are kept to 0.1 ms. -/
structure ChannelRecord where
  mode : Mode
  causes : CauseSet
  pAxle : Int
  pRoll : Int
  pSlip : Int
  pd : Int
  pCmd : Int
  e : Int
  phase : Phase
  w : Int
  pulseEnd : Option Int
  lastClosed : Option (Valve × Int)
  trackingStart : Option Int
  inlet : Indication
  outlet : Indication
  faultCount : Nat
  opening : Option Opening
  deriving DecidableEq, Repr

/-- R112: the VALVE group. -/
structure ValveGroup where
  period : Int
  deadZone : Int
  kin : Int
  kout : Int
  minWidth : Int
  deadBand : Int
  trackingLimit : Int
  trackingTime : Int
  deriving DecidableEq, Repr

/-- The modulator drive; `periodEnd` is the end of the valve period in progress, in 0.1 ms. -/
structure Mdu where
  channels : PerChannel ChannelRecord
  group : ValveGroup
  periodEnd : Option Int
  due : Option Nat
  deriving DecidableEq, Repr

/-! ### Rollover unit -/

/-- R116: the stages of the rollover machine. -/
inductive Stage where
  | quiet | watch | test | brake | holdoff
  deriving DecidableEq, Repr

/-- R116: a side of the trailer, named by its rear channel. -/
inductive Side where
  | left | right
  deriving DecidableEq, Repr

/-- R116: the sign of Af at a test start. -/
inductive Sign where
  | positive | negative
  deriving DecidableEq, Repr

/-- R116: the outcome of the latest test. -/
inductive TestResult where
  | none | grip | lift | inconclusive
  deriving DecidableEq, Repr

/-- R133: the ROLL group. -/
structure RollGroup where
  aEmpty : Int
  aLaden : Int
  sloshPenalty : Int
  sloshLow : Int
  sloshHigh : Int
  vrollMin : Int
  transferLimit : Int
  testInterval : Int
  testDuration : Int
  pTest : Int
  testSuppress : Int
  llift : Int
  pRollStart : Int
  rampStep : Int
  pRollMax : Int
  innerShare : Int
  releaseTime : Int
  holdoffTime : Int
  deriving DecidableEq, Repr

/-- R116: the rollover record, with its group and its evaluation period. -/
structure Rou where
  stage : Stage
  outer : Side
  af : Int
  aThr : Int
  aWatch : Int
  aRelease : Int
  transfer : Option Int
  stageEntry : Time
  calmStart : Option Time
  testStart : Option Time
  testSign : Option Sign
  testChannel : Option Side
  testPeak : Int
  lastTest : Option Time
  testResult : TestResult
  pRoll : PerChannel Int
  unavailable : Bool
  degraded : Bool
  interventions : Nat
  tests : Nat
  refusals : Nat
  group : RollGroup
  due : Option Nat
  deriving DecidableEq, Repr

/-! ### Tyre unit -/

/-- Table 8.2: the position of a tyre on its wheel end. -/
inductive Position where
  | single | inner | outer
  deriving DecidableEq, Repr

/-- Table 8.2: the judgement of a tyre. -/
inductive TyreState where
  | unknown | normal | low | critical | leaking | silent
  deriving DecidableEq, Repr

/-- R139: a tyre slot. -/
structure Slot where
  occupied : Bool
  id : Nat
  wheel : Wheel
  position : Position
  pNom : Int
  lastP : Option Int
  lastT : Option Int
  p20 : Option Int
  leakRef : Option (Int × Time)
  leakRate : Option Int
  leakCount : Nat
  state : TyreState
  silentTimer : Nat
  batteryLow : Bool
  rotating : Bool
  telegrams : Nat
  lastArrival : Option Time
  deriving DecidableEq, Repr

/-- R144: what TYU exports for a wheel end. -/
structure TyreExport where
  deficit : Int
  factor : Int
  flat : Bool
  deriving DecidableEq, Repr

/-- R146: the TYRE group without its roster, which the slots hold. -/
structure TyreGroup where
  criticalPct : Int
  lowPct : Int
  leakThreshold : Int
  silentTime : Int
  kr : Int
  lowPenalty : Int
  criticalPenalty : Int
  penaltyLimit : Int
  entryCount : Nat
  deriving DecidableEq, Repr

/-- The tyre unit: receiver record (R136; the character count is the buffer's length), tyre table (R139; twelve
slots), export record (R144, R145). -/
structure Tyu where
  isOpen : Bool
  buffer : List Byte
  gapTimer : Option Nat
  gapErrors : Nat
  parityErrors : Nat
  frameErrors : Nat
  checkErrors : Nat
  strangers : Nat
  telegrams : Nat
  slots : List Slot
  exports : PerWheel TyreExport
  penalty : Int
  group : TyreGroup
  due : Option Nat
  deriving DecidableEq, Repr

/-! ### Air account -/

/-- R150: the fields of one allowance (its base count is in the AIR group). -/
structure Allowance where
  current : Int
  grants : Nat
  refusedCount : Nat
  refusedReserve : Nat
  deriving DecidableEq, Repr

/-- R155: the AIR group. -/
structure AirGroup where
  reserve : Int
  critical : Int
  reload : Int
  hysteresis : Int
  testBase : Int
  liftBase : Int
  autoReload : Bool
  interval : Int
  deriving DecidableEq, Repr

/-- R150: the air record. -/
structure Aac where
  critical : Bool
  lastReload : Time
  test : Allowance
  lift : Allowance
  group : AirGroup
  deriving DecidableEq, Repr

/-! ### Exchange port -/

/-- R165: the device states. -/
inductive Device where
  | start | unconfigured | active | safe
  deriving DecidableEq, Repr

/-- R164: the result of the latest take of a request. -/
inductive TakeResult where
  | none | accepted | acceptedClamped | refused
  deriving DecidableEq, Repr

/-- R164: result, detail and take count of a request. -/
structure TakeReport where
  result : TakeResult
  detail : Nat
  count : Nat
  deriving DecidableEq, Repr

/-- XPT's device state, take requests and reports, and the checksum sum of the latest load. -/
structure Xpt where
  device : Device
  pending : PerRequest Bool
  reports : PerRequest TakeReport
  loadSum : Nat
  deriving DecidableEq, Repr

/-- R158: the direction of a port transaction. -/
inductive Direction where
  | reading | writing
  deriving DecidableEq, Repr

/-- R158, R159: a port transaction past its header: the current address; when reading, the latched word and the latched
register value; when writing, the bytes collected for the current word and the lower byte of a register. -/
structure Txn where
  dir : Direction
  addr : Nat
  wordLatch : Option (Nat × List Byte)
  regLatch : Option Half
  collected : List Host.Cell
  regLow : Option Byte
  deriving DecidableEq, Repr

/-- R158: how far a port transaction has come: its command and address bytes so far, fewer than three; a transaction
with another command, ignored until it ends; or its data bytes. -/
inductive Transaction where
  | header (bytes : List Byte)
  | ignored
  | data (txn : Txn)
  deriving DecidableEq, Repr

/-- The serial memory port; `out` is what the latest READ transaction has returned to the host (log 11). -/
structure Port where
  txn : Option Transaction
  out : List Byte
  deriving DecidableEq, Repr

/-! ### Attention, HEALTH and the journal -/

/-- R168, R171: the three sets of ATC, the conditions of its level sources as it follows them, and nATTN
(true is asserted). -/
structure Atc where
  pending : PerLevel Bool
  inService : PerLevel Bool
  mask : PerLevel Bool
  journal : Bool
  supply : Bool
  demand : Bool
  nattn : Bool
  deriving DecidableEq, Repr

/-- R172: the six sticky flags of HEALTH. -/
structure Health where
  resetSeen : Bool
  sensorFault : Bool
  valveFault : Bool
  telegramErr : Bool
  demandMismatch : Bool
  journalDrop : Bool
  deriving DecidableEq, Repr

/-- R175: the REPORT group; bit n of `kinds` enables record kind n. -/
structure ReportGroup where
  kinds : Half
  warningLevel : Nat
  deriving DecidableEq, Repr

/-- R173: the fields of the journal writer. -/
structure Jrw where
  w : Half
  rel : Half
  occupied : Nat
  free : Nat
  warning : Bool
  drops : Nat
  ignored : Nat
  group : ReportGroup
  deriving DecidableEq, Repr

/-! ### Pins, memory and the whole state -/

/-- The indications the two valve driver monitors of a channel show. -/
structure Drivers where
  inlet : Indication
  outlet : Indication
  deriving DecidableEq, Repr

/-- The levels of the part's inputs that last between events and through resets (log 9). -/
structure Pins where
  nreset : Bool
  cd : Bool
  monitors : PerChannel Drivers
  deriving DecidableEq, Repr

/-- Exchange memory as (address, byte) pairs, addresses strictly rising and no byte 0; an unlisted address reads 0,
as the zero fill of power-on reset leaves it (R167). -/
abbrev Memory := List Host.Cell

/-- The whole part. -/
@[ext]
structure State where
  pending : List Instr
  uptime : Nat
  freeCount : Nat
  pins : Pins
  store : List Half
  load : Load
  sfe : Sfe
  ldu : Ldu
  lfc : Lfc
  wsu : Wsu
  scu : Scu
  mdu : Mdu
  rou : Rou
  tyu : Tyu
  aac : Aac
  xpt : Xpt
  port : Port
  atc : Atc
  health : Health
  jrw : Jrw
  mem : Memory
  deriving DecidableEq, Repr

/-- The manual names no condition that stops the part: "Every computed value is clamped to its range, and a
computation does not raise an error" (R1). So there is no fault, and this type has no value. -/
inductive Fault where
  deriving DecidableEq, Repr

/-- The reasons a command is refused. -/
inductive Refusal where
  /-- Raised by exec alone, for a command that has no meaning yet (safe). No arm raises it now. -/
  | notModelled (mnemonic : String)
  deriving DecidableEq, Repr

/-! ### The reset values -/

/-- R17: every entry of the sensor value record. -/
def Entry.reset : Entry :=
  { value := 0, counts := 0, state := .invalid, timer := none, recovery := none, faultCount := 0 }

/-- R17: every trim record until a good load. -/
def Trim.reset : Trim := { offset := 0, gain := 0 }

/-- R17. -/
def Sfe.reset : Sfe :=
  { entries := ⟨.reset, .reset, .reset, .reset, .reset, .reset, .reset, .reset, .reset⟩
    trims := ⟨.reset, .reset, .reset, .reset, .reset, .reset, .reset, .reset, .reset⟩
    seed := true
    sectionDue := none }

/-- R17 and R41: the demand record. -/
def Demand.reset : Demand :=
  { lastStamp := none, changeSeen := false, age := 0, link := .down, de := 0, liftRead := .auto, liftHanded := .auto
    freshness := .stale .noChange, source := .none, mismatchStart := none, mismatch := false, d := 0 }

/-- R41: an axle record. -/
def Axle.reset : Axle := { b := 0, l := 0, r := 0, f := 0, pAxle := 0, source := .sensed, valid := false }

/-- Tables 2.10 and 3.4: the built-in defaults of the LOAD group. -/
def LoadGroup.default : LoadGroup :=
  { demandTimeout := 60, mismatchLimit := 120, releaseThreshold := 10, knee := 30, pmax := 850
    autoMode := true, raiseRatio := 1024, lowerRatio := 1638, raiseDelay := 10000, lowerDemand := 300
    loweredConfirm := 60, raisedConfirm := 20, moveTimeout := 6000, raisedDwell := 2000 }

/-- R41. `lastPeriod` has no reset value in the manual (DESIGN CHOICE 0, log 29). -/
def Ldu.reset : Ldu :=
  { demand := .reset, lastPeriod := 0, front := .reset, rear := .reset, vehicle := none, load := .default, due := none }

/-- R56. -/
def Lfc.reset : Lfc :=
  { state := .unknown, valve := false, request := .auto, lowRatioStart := none, dwellStart := none, moveStart := none
    moveCause := .auto, moveTimer := none, lastResult := none, refusalCount := 0, timeoutCount := 0 }

/-- R73: a wheel-end record. -/
def WheelEnd.reset : WheelEnd :=
  { fitted := true, edges := 0, firstEdge := none, lastEdge := none, circuit := .closed, v := 0, c := 0, vc := 0
    prevVc := none, aw := 0, slip := 0, excl := ⟨false, false, false, false⟩, included := true, sensor := .ok
    faultKind := none, zeroStart := none, recoveryStart := none, faultCount := 0 }

/-- R73. -/
def Wsu.reset : Wsu :=
  { wheels := ⟨.reset, .reset, .reset, .reset, .reset, .reset⟩
    vref := 0, candidate := 0, includedCount := 6, ramp := false, travel := 32000, due := none }

/-- R94: a slip record. -/
def SlipRecord.reset : SlipRecord :=
  { state := .off, pSlip := 850, wheel := none, lock := 0, index := 0, offset := 4, dumps := 0, minPd := none
    episodeStart := none, holdTimer := none, stepTimer := none, suppressed := false, deferrals := 0, episodes := 0 }

/-- Tables 5.5 and 5.2: the built-in defaults of the SLIP group. -/
def SlipGroup.default : SlipGroup :=
  { vmin := 150, ldump := 180, lhold := 80, adump := 60, areaccel := 20, holdTime := 40, stepTime := 30
    startIndex := 4, spans := ⟨.all, .all, .all⟩
    slope := [140, 150, 160, 170, 180, 190, 200, 210, 218, 226, 234, 240, 246, 250, 253, 255] }

/-- R94. -/
def Scu.reset : Scu := { channels := ⟨.reset, .reset, .reset⟩, group := .default }

/-- R115: a channel record, before the driver monitors report. -/
def ChannelRecord.reset : ChannelRecord :=
  { mode := .backup
    causes := { inletOpen := false, inletShort := false, outletOpen := false, outletShort := false, pdFault := false
                tracking := false, sourceNone := true, notActive := true }
    pAxle := 0, pRoll := 0, pSlip := 0, pd := 0, pCmd := 0, e := 0, phase := .closed, w := 0, pulseEnd := none
    lastClosed := none, trackingStart := none, inlet := .ok, outlet := .ok, faultCount := 0, opening := none }

/-- Table 6.6: the built-in defaults of the VALVE group. -/
def ValveGroup.default : ValveGroup :=
  { period := 10, deadZone := 8, kin := 154, kout := 128, minWidth := 5, deadBand := 10, trackingLimit := 100
    trackingTime := 1000 }

/-- R115. -/
def Mdu.reset : Mdu := { channels := ⟨.reset, .reset, .reset⟩, group := .default, periodEnd := none, due := none }

/-- Table 7.4: the built-in defaults of the ROLL group. -/
def RollGroup.default : RollGroup :=
  { aEmpty := 420, aLaden := 290, sloshPenalty := 25, sloshLow := 1229, sloshHigh := 3277, vrollMin := 800
    transferLimit := 650, testInterval := 1000, testDuration := 300, pTest := 60, testSuppress := 50, llift := 300
    pRollStart := 150, rampStep := 20, pRollMax := 500, innerShare := 128, releaseTime := 500, holdoffTime := 500 }

/-- R135 (and R17 for Af). -/
def Rou.reset : Rou :=
  { stage := .quiet, outer := .right, af := 0, aThr := 0, aWatch := 0, aRelease := 0, transfer := none, stageEntry := 0
    calmStart := none, testStart := none, testSign := none, testChannel := none, testPeak := 0, lastTest := none
    testResult := .none, pRoll := ⟨0, 0, 0⟩, unavailable := false, degraded := false, interventions := 0, tests := 0
    refusals := 0, group := .default, due := none }

/-- R139: an unoccupied slot holds 0 in every number, UNKNOWN and every optional field absent. Its wheel end and
position codes are 0 too. -/
def Slot.empty : Slot :=
  { occupied := false, id := 0, wheel := .a1l, position := .single, pNom := 0, lastP := none, lastT := none, p20 := none
    leakRef := none, leakRate := none, leakCount := 0, state := .unknown, silentTimer := 0, batteryLow := false
    rotating := false, telegrams := 0, lastArrival := none }

/-- R149: the export of a wheel end with no roster. -/
def TyreExport.reset : TyreExport := { deficit := 0, factor := 4096, flat := false }

/-- Table 8.4: the built-in defaults of the TYRE group. -/
def TyreGroup.default : TyreGroup :=
  { criticalPct := 70, lowPct := 85, leakThreshold := 10, silentTime := 480, kr := 328, lowPenalty := 10
    criticalPenalty := 30, penaltyLimit := 60, entryCount := 0 }

/-- R149. -/
def Tyu.reset : Tyu :=
  { isOpen := false, buffer := [], gapTimer := none, gapErrors := 0, parityErrors := 0, frameErrors := 0
    checkErrors := 0, strangers := 0, telegrams := 0, slots := List.replicate 12 .empty
    exports := ⟨.reset, .reset, .reset, .reset, .reset, .reset⟩, penalty := 0, group := .default, due := none }

/-- Table 9.2: the built-in defaults of the AIR group. -/
def AirGroup.default : AirGroup :=
  { reserve := 450, critical := 350, reload := 700, hysteresis := 10, testBase := 20, liftBase := 6
    autoReload := true, interval := 60000 }

/-- R157. -/
def Aac.reset : Aac :=
  { critical := false, lastReload := 0
    test := { current := 20, grants := 0, refusedCount := 0, refusedReserve := 0 }
    lift := { current := 6, grants := 0, refusedCount := 0, refusedReserve := 0 }
    group := .default }

/-- R167: result NONE, detail 0, take count 0. -/
def TakeReport.reset : TakeReport := { result := .none, detail := 0, count := 0 }

/-- R167. -/
def Xpt.reset : Xpt :=
  { device := .start
    pending := ⟨false, false, false, false, false, false, false, false, false⟩
    reports := ⟨.reset, .reset, .reset, .reset, .reset, .reset, .reset, .reset, .reset⟩
    loadSum := 0 }

/-- R167: no transaction in progress. -/
def Port.reset : Port := { txn := none, out := [] }

/-- R176: every level masked; DEMAND pending, since LDU holds its condition true; nATTN released. -/
def Atc.reset : Atc :=
  { pending := ⟨false, false, false, false, false, false, false, true⟩
    inService := ⟨false, false, false, false, false, false, false, false⟩
    mask := ⟨true, true, true, true, true, true, true, true⟩
    journal := false, supply := false, demand := true, nattn := false }

/-- R176: RESET_SEEN set, the others clear. -/
def Health.reset : Health :=
  { resetSeen := true, sensorFault := false, valveFault := false, telegramErr := false, demandMismatch := false
    journalDrop := false }

/-- R175: the built-in defaults of the REPORT group. -/
def ReportGroup.default : ReportGroup := { kinds := 0x3FFE, warningLevel := 8 }

/-- R176. -/
def Jrw.reset : Jrw :=
  { w := 0, rel := 0, occupied := 0, free := 64, warning := false, drops := 0, ignored := 0, group := .default }

/-- R14: the calibration load as it begins, due 30 ms later. -/
def Load.begun : Load := { buffer := [], due := some 30000 }

/-- The trim store of Table 1.6 with its good checksum word. The manual gives the store no contents for a part
(DESIGN CHOICE, log 8). -/
def exampleStore : List Half :=
  [118, 1288, 120, 1290, 102, 1301, 97, 1296, 110, 1284, 125, 1279, 121, 1282, 119, 1286, 2048, 3156, 26013]

/-- The inputs at power-on: nRESET released, CD deasserted, every monitor OK (DESIGN CHOICE, log 9). -/
def Pins.initial : Pins :=
  { nreset := false, cd := false, monitors := ⟨⟨.ok, .ok⟩, ⟨.ok, .ok⟩, ⟨.ok, .ok⟩⟩ }

/-- Exchange memory after the zero fill of power-on reset (R167) and the two rewrites made at the reset: the device
section at 0x0C00 (R165: stamps 1, every item 0) and the journal section at 0x13C0 (R176: stamps 1, free 64, the
REPORT defaults 0x3FFE and 8). -/
def Memory.reset : Memory :=
  [(0x0C00, 1), (0x0C7C, 1), (0x13C0, 1), (0x13CA, 64), (0x13D2, 0xFE), (0x13D3, 0x3F), (0x13D4, 8), (0x13FC, 1)]

/-- The part right after power-on reset, with the calibration load just begun. -/
def State.reset : State :=
  { pending := [], uptime := 0, freeCount := 0, pins := .initial, store := exampleStore, load := .begun
    sfe := .reset, ldu := .reset, lfc := .reset, wsu := .reset, scu := .reset, mdu := .reset, rou := .reset
    tyu := .reset, aac := .reset, xpt := .reset, port := .reset, atc := .reset, health := .reset, jrw := .reset
    mem := .reset }

end Sys2Proof.Machine
end

