-- ==== Sys2Proof/Machine/Operands.lean ====
section
/-! DEFINITION. Machine/Operands.lean: the fixed collections by index, the arithmetic of R1, the coding of numbers in
exchange memory, and the validation every setting group shares. -/

namespace Sys2Proof

/-- The value for one wheel end. -/
def PerWheel.get (t : PerWheel α) : Wheel → α
  | .a1l => t.a1l
  | .a1r => t.a1r
  | .a2l => t.a2l
  | .a2r => t.a2r
  | .a3l => t.a3l
  | .a3r => t.a3r

/-- The table with the value for one wheel end replaced. -/
def PerWheel.set (t : PerWheel α) (i : Wheel) (x : α) : PerWheel α :=
  match i with
  | .a1l => { t with a1l := x }
  | .a1r => { t with a1r := x }
  | .a2l => { t with a2l := x }
  | .a2r => { t with a2r := x }
  | .a3l => { t with a3l := x }
  | .a3r => { t with a3r := x }

/-- Wheel end index (R57). -/
def Wheel.index : Wheel → Nat
  | .a1l => 0
  | .a1r => 1
  | .a2l => 2
  | .a2r => 3
  | .a3l => 4
  | .a3r => 5

/-- All of them, in index order. -/
def Wheel.all : List Wheel := [.a1l, .a1r, .a2l, .a2r, .a3l, .a3r]

/-- The values in index order. -/
def PerWheel.toList (t : PerWheel α) : List α := Wheel.all.map t.get

/-- The table of a value for each wheel end. -/
def PerWheel.tabulate (f : Wheel → α) : PerWheel α :=
  ⟨f .a1l, f .a1r, f .a2l, f .a2r, f .a3l, f .a3r⟩

/-- Input index (Table 1.1). -/
def Input.index : Input → Nat
  | .pc => 0
  | .pres => 1
  | .bl => 2
  | .br => 3
  | .bf => 4
  | .pdFront => 5
  | .pdLeft => 6
  | .pdRight => 7
  | .ay => 8

/-- All of them, in index order. -/
def Input.all : List Input := [.pc, .pres, .bl, .br, .bf, .pdFront, .pdLeft, .pdRight, .ay]

/-- Channel code (R74). -/
def Channel.index : Channel → Nat
  | .front => 0
  | .left => 1
  | .right => 2

/-- All of them, in index order. -/
def Channel.all : List Channel := [.front, .left, .right]

end Sys2Proof

namespace Sys2Proof.Machine

/-- The value for one input. -/
def PerInput.get (t : PerInput α) : Input → α
  | .pc => t.pc
  | .pres => t.pres
  | .bl => t.bl
  | .br => t.br
  | .bf => t.bf
  | .pdFront => t.pdFront
  | .pdLeft => t.pdLeft
  | .pdRight => t.pdRight
  | .ay => t.ay

/-- The table with the value for one input replaced. -/
def PerInput.set (t : PerInput α) (i : Input) (x : α) : PerInput α :=
  match i with
  | .pc => { t with pc := x }
  | .pres => { t with pres := x }
  | .bl => { t with bl := x }
  | .br => { t with br := x }
  | .bf => { t with bf := x }
  | .pdFront => { t with pdFront := x }
  | .pdLeft => { t with pdLeft := x }
  | .pdRight => { t with pdRight := x }
  | .ay => { t with ay := x }

/-- The values in index order. -/
def PerInput.toList (t : PerInput α) : List α := Input.all.map t.get

/-- The table of a value for each input. -/
def PerInput.tabulate (f : Input → α) : PerInput α :=
  ⟨f .pc, f .pres, f .bl, f .br, f .bf, f .pdFront, f .pdLeft, f .pdRight, f .ay⟩

/-- The value for one channel. -/
def PerChannel.get (t : PerChannel α) : Channel → α
  | .front => t.front
  | .left => t.left
  | .right => t.right

/-- The table with the value for one channel replaced. -/
def PerChannel.set (t : PerChannel α) (i : Channel) (x : α) : PerChannel α :=
  match i with
  | .front => { t with front := x }
  | .left => { t with left := x }
  | .right => { t with right := x }

/-- The values in index order. -/
def PerChannel.toList (t : PerChannel α) : List α := Channel.all.map t.get

/-- The table of a value for each channel. -/
def PerChannel.tabulate (f : Channel → α) : PerChannel α :=
  ⟨f .front, f .left, f .right⟩

/-- The value for one level. -/
def PerLevel.get (t : PerLevel α) : Level → α
  | .fault => t.fault
  | .roll => t.roll
  | .slip => t.slip
  | .tyre => t.tyre
  | .journal => t.journal
  | .supply => t.supply
  | .take => t.take
  | .demand => t.demand

/-- The table with the value for one level replaced. -/
def PerLevel.set (t : PerLevel α) (i : Level) (x : α) : PerLevel α :=
  match i with
  | .fault => { t with fault := x }
  | .roll => { t with roll := x }
  | .slip => { t with slip := x }
  | .tyre => { t with tyre := x }
  | .journal => { t with journal := x }
  | .supply => { t with supply := x }
  | .take => { t with take := x }
  | .demand => { t with demand := x }

/-- Level number (R168). -/
def Level.index : Level → Nat
  | .fault => 0
  | .roll => 1
  | .slip => 2
  | .tyre => 3
  | .journal => 4
  | .supply => 5
  | .take => 6
  | .demand => 7

/-- All of them, in index order. -/
def Level.all : List Level := [.fault, .roll, .slip, .tyre, .journal, .supply, .take, .demand]

/-- The values in index order. -/
def PerLevel.toList (t : PerLevel α) : List α := Level.all.map t.get

/-- The table of a value for each level. -/
def PerLevel.tabulate (f : Level → α) : PerLevel α :=
  ⟨f .fault, f .roll, f .slip, f .tyre, f .journal, f .supply, f .take, f .demand⟩

/-- The value for one request. -/
def PerRequest.get (t : PerRequest α) : Request → α
  | .vehicle => t.vehicle
  | .load => t.load
  | .slip => t.slip
  | .valve => t.valve
  | .roll => t.roll
  | .tyre => t.tyre
  | .air => t.air
  | .report => t.report
  | .clearFaults => t.clearFaults

/-- The table with the value for one request replaced. -/
def PerRequest.set (t : PerRequest α) (i : Request) (x : α) : PerRequest α :=
  match i with
  | .vehicle => { t with vehicle := x }
  | .load => { t with load := x }
  | .slip => { t with slip := x }
  | .valve => { t with valve := x }
  | .roll => { t with roll := x }
  | .tyre => { t with tyre := x }
  | .air => { t with air := x }
  | .report => { t with report := x }
  | .clearFaults => { t with clearFaults := x }

/-- Bit number in TAKE (Table 10.2). -/
def Request.index : Request → Nat
  | .vehicle => 0
  | .load => 1
  | .slip => 2
  | .valve => 3
  | .roll => 4
  | .tyre => 5
  | .air => 6
  | .report => 7
  | .clearFaults => 8

/-- All of them, in index order. -/
def Request.all : List Request := [.vehicle, .load, .slip, .valve, .roll, .tyre, .air, .report, .clearFaults]

/-- The values in index order. -/
def PerRequest.toList (t : PerRequest α) : List α := Request.all.map t.get

/-- The table of a value for each request. -/
def PerRequest.tabulate (f : Request → α) : PerRequest α :=
  ⟨f .vehicle, f .load, f .slip, f .valve, f .roll, f .tyre, f .air, f .report, f .clearFaults⟩

/-! ### Arithmetic (R1) -/

/-- R1: a rounded quotient, half of the divisor added to the dividend and then the floor. -/
def rounded (a d : Int) : Int := (a + d / 2) / d

/-- R1: a truncated quotient, integer division toward zero. -/
def truncated (a d : Int) : Int := a.tdiv d

/-- R1: a value brought into its range. -/
def clamp (lo hi x : Int) : Int := if x < lo then lo else if hi < x then hi else x

/-- The absolute value. -/
def magnitude (x : Int) : Int := if x < 0 then -x else x

/-- A 16-bit count that saturates at 65,535, one up. -/
def count16 (n : Nat) : Nat := if 65535 ≤ n then 65535 else n + 1

/-- An 8-bit count that saturates at 255, one up. -/
def count8 (n : Nat) : Nat := if 255 ≤ n then 255 else n + 1

/-- A flag as the number the host reads. -/
def flag (b : Bool) : Nat := if b then 1 else 0

/-! ### Words and bytes (Section 0.5.4, R161) -/

/-- The two bytes of a 16-bit word, little-endian. -/
def bytes16 (n : Nat) : List Byte := [BitVec.ofNat 8 n, BitVec.ofNat 8 (n / 256)]

/-- The four bytes of a 32-bit word, little-endian. -/
def bytes32 (n : Nat) : List Byte :=
  [BitVec.ofNat 8 n, BitVec.ofNat 8 (n / 256), BitVec.ofNat 8 (n / 65536), BitVec.ofNat 8 (n / 16777216)]

/-- A signed number as a 32-bit word in two's complement. -/
def signed32 (i : Int) : Nat := (i % 4294967296).toNat

/-- A signed number as a 16-bit word in two's complement. -/
def signed16 (i : Int) : Nat := (i % 65536).toNat

/-- R161: an item of a section body: one whose range fits in 16 bits, or any other. -/
inductive Item where
  | half (n : Nat)
  | word (n : Nat)
  deriving DecidableEq, Repr

/-- A 16-bit item holding a number that may be negative. -/
def Item.int (i : Int) : Item := .half (signed16 i)

/-- A 32-bit item holding a number that may be negative. -/
def Item.int32 (i : Int) : Item := .word (signed32 i)

/-- A 16-bit item holding a flag. -/
def Item.flag (b : Bool) : Item := .half (Machine.flag b)

/-- R161: the body's items in the order listed, each word aligned to its own size; `off` is the offset at which the
next item may begin, even throughout. -/
def packItems (off : Nat) : List Item → List Byte
  | [] => []
  | .half n :: rest => bytes16 n ++ packItems (off + 2) rest
  | .word n :: rest =>
    if off % 4 = 2 then 0 :: 0 :: (bytes32 n ++ packItems (off + 6) rest)
    else bytes32 n ++ packItems (off + 4) rest

/-- A byte list cut or filled with 0 to a length: "Bytes of the section that the body does not use read 0" (R161). -/
def fitBytes (n : Nat) (bs : List Byte) : List Byte := (bs ++ List.replicate n 0).take n

/-! ### Setting groups: clamping, counting and refusal -/

/-- The check column of a setting group's table: clamped into a range, or not clamped. -/
inductive FieldCheck where
  | clamped (lo hi : Nat)
  | asWritten
  deriving DecidableEq, Repr

/-- A field's value after clamping. -/
def FieldCheck.apply : FieldCheck → Nat → Nat
  | .clamped lo hi, n => if n < lo then lo else if hi < n then hi else n
  | .asWritten, n => n

/-- The fields after clamping, in index order. -/
def clampFields : List FieldCheck → List Nat → List Nat
  | c :: cs, n :: ns => c.apply n :: clampFields cs ns
  | _, _ => []

/-- How many fields clamping changed. -/
def clampCount : List FieldCheck → List Nat → Nat
  | c :: cs, n :: ns => (if c.apply n = n then 0 else 1) + clampCount cs ns
  | _, _ => 0

/-- The lowest-indexed field whose refusal check failed, of checks given in index order with what they found. -/
def firstRefused : List (Nat × Bool) → Option Nat
  | [] => none
  | (i, failed) :: rest => if failed then some i else firstRefused rest

/-- R164: the outcome of a take that an owner hands to XPT. -/
inductive Outcome where
  | accepted
  | acceptedClamped (count : Nat)
  | refused (field : Nat)
  deriving DecidableEq, Repr

/-- R38: the outcome from the refusal checks and the count of clamped fields. -/
def outcomeOf (refusals : List (Nat × Bool)) (count : Nat) : Outcome :=
  match firstRefused refusals with
  | some i => .refused i
  | none => if count = 0 then .accepted else .acceptedClamped count

/-- Whether the group of an outcome is taken into force. -/
def Outcome.isAccepted : Outcome → Bool
  | .refused _ => false
  | _ => true

/-- Field i of a group's words. -/
def field (ws : List Nat) (i : Nat) : Nat := ws.getD i 0

end Sys2Proof.Machine
end

