-- ==== Sys2Proof/Machine/Flags.lean ====
section
/-! DEFINITION. Machine/Flags.lean: the flag computations: the attention sets with nATTN (R168 to R171), the level
sources, the sticky flags of HEALTH and their standing conditions (R172), the cause sets (R96). -/

namespace Sys2Proof.Machine

/-! ### Attention -/

/-- R169: of levels in priority order, the first that is pending, not masked and before every level in service. -/
def Atc.pick (a : Atc) : List Level → Option Level
  | [] => none
  | l :: ls =>
    if a.inService.get l then none
    else if a.pending.get l && !a.mask.get l then some l
    else a.pick ls

/-- R169: the level a poll would select. -/
def Atc.selected (a : Atc) : Option Level := a.pick Level.all

/-- R171: nATTN judged anew from the three sets. -/
def Atc.judged (a : Atc) : Atc := { a with nattn := a.selected.isSome }

/-- R168: an event of an edge source puts the level into the pending set. -/
def Atc.raise (a : Atc) (l : Level) : Atc := { a with pending := a.pending.set l true }.judged

/-- R168: the condition ATC holds for a level source; none for an edge source. -/
def Atc.condition (a : Atc) : Level → Option Bool
  | .journal => some a.journal
  | .supply => some a.supply
  | .demand => some a.demand
  | .fault | .roll | .slip | .tyre | .take => none

/-- The record of a level source's condition. -/
def Atc.holdCondition (a : Atc) (l : Level) (c : Bool) : Atc :=
  match l with
  | .journal => { a with journal := c }
  | .supply => { a with supply := c }
  | .demand => { a with demand := c }
  | .fault | .roll | .slip | .tyre | .take => a

/-- R168: ATC follows a level source: at a change of the condition the level enters or leaves the pending set, unless
it is in service. -/
def Atc.follow (a : Atc) (l : Level) (c : Bool) : Atc :=
  if a.condition l = some c then a
  else if a.inService.get l then a.holdCondition l c
  else { a.holdCondition l c with pending := a.pending.set l c }.judged

/-- R169: a poll moves the selected level from the pending set to the in-service set. -/
def Atc.poll (a : Atc) : Atc :=
  match a.selected with
  | none => a
  | some l => { a with pending := a.pending.set l false, inService := a.inService.set l true }.judged

/-- R169: what a poll returns, the level's number or NONE. -/
def Atc.pollValue (a : Atc) : Half :=
  match a.selected with
  | none => 0x00FF
  | some l => BitVec.ofNat 16 l.index

/-- R170: the lowest-numbered level in service. -/
def Atc.lowestInService (a : Atc) : Option Level := Level.all.find? (fun l => a.inService.get l)

/-- R170: the level that the value written to ATTN_END names; none when the value is ignored or names no level in
service. -/
def Atc.endTarget (a : Atc) (value : Half) : Option Level :=
  if value = 0x000F then a.lowestInService
  else Level.all.find? (fun l => value = BitVec.ofNat 16 l.index && a.inService.get l)

/-- R170: a level leaves the in-service set. -/
def Atc.leave (a : Atc) (l : Level) : Atc := { a with inService := a.inService.set l false }.judged

/-- R170: after a level source's level has left service its condition is judged afresh; the level becomes pending when
it holds and stays out of the pending set when it does not. -/
def Atc.rejudge (a : Atc) (l : Level) : Atc :=
  match a.condition l with
  | some c => { a with pending := a.pending.set l c }.judged
  | none => a

/-- R170, R171: a set of levels as the host reads it, bit n for level n. Bits 8 to 15 are 0: R170 says so of ATTN_END, and
of ATTN_MASK no rule does (log 43). -/
def levelBits (t : PerLevel Bool) : Half :=
  BitVec.ofNat 16 (Level.all.foldr (fun l n => (if t.get l then 1 else 0) + 2 * n) 0)

/-- The set of levels that bits 0 to 7 of a value name. -/
def levelsOf (value : Half) : PerLevel Bool := PerLevel.tabulate (fun l => value.getLsbD l.index)

/-- R171: a write of ATTN_MASK replaces the mask set. -/
def Atc.writeMask (a : Atc) (value : Half) : Atc := { a with mask := levelsOf value }.judged

/-! ### Cause sets -/

/-- R96: membership of a cause. -/
def CauseSet.get (c : CauseSet) : Cause → Bool
  | .inletOpen => c.inletOpen
  | .inletShort => c.inletShort
  | .outletOpen => c.outletOpen
  | .outletShort => c.outletShort
  | .pdFault => c.pdFault
  | .tracking => c.tracking
  | .sourceNone => c.sourceNone
  | .notActive => c.notActive

/-- The set with a cause put in or taken out. -/
def CauseSet.set (c : CauseSet) (cause : Cause) (b : Bool) : CauseSet :=
  match cause with
  | .inletOpen => { c with inletOpen := b }
  | .inletShort => { c with inletShort := b }
  | .outletOpen => { c with outletOpen := b }
  | .outletShort => { c with outletShort := b }
  | .pdFault => { c with pdFault := b }
  | .tracking => { c with tracking := b }
  | .sourceNone => { c with sourceNone := b }
  | .notActive => { c with notActive := b }

/-- R110: a driver cause or TRACKING is in the set. -/
def CauseSet.hasValveFault (c : CauseSet) : Bool :=
  c.inletOpen || c.inletShort || c.outletOpen || c.outletShort || c.tracking

/-- R96: a latched cause is in the set. -/
def CauseSet.hasLatched (c : CauseSet) : Bool := c.hasValveFault || c.pdFault

/-- R96: the set is empty. -/
def CauseSet.isEmpty (c : CauseSet) : Bool := !(c.hasLatched || c.sourceNone || c.notActive)

/-- R111: the set without its latched causes. -/
def CauseSet.withoutLatched (c : CauseSet) : CauseSet :=
  { inletOpen := false, inletShort := false, outletOpen := false, outletShort := false, pdFault := false
    tracking := false, sourceNone := c.sourceNone, notActive := c.notActive }

/-! ### HEALTH -/

/-- R2: a value is valid when its state is VALID or STALE. -/
def Validity.isValid : Validity → Bool
  | .valid | .stale => true
  | .invalid | .fault => false

/-- R9: the condition of SENSOR_FAULT. -/
def State.sensorFaultCondition (s : State) : Bool :=
  s.sfe.entries.toList.any (fun e => e.state = .fault)

/-- R110: the condition of VALVE_FAULT. -/
def State.valveFaultCondition (s : State) : Bool :=
  s.mdu.channels.toList.any (fun c => c.causes.hasValveFault)

/-- R162: CAL_BUSY reads 1 exactly while the calibration load is in progress. -/
def State.calBusy (s : State) : Bool := s.load.due.isSome

/-- Table 10.5: HEALTH as the host reads it. -/
def State.healthValue (s : State) : Half :=
  BitVec.ofNat 16 (flag s.health.resetSeen + 2 * flag s.calBusy + 4 * flag (s.xpt.device = .safe)
    + 8 * flag s.health.sensorFault + 16 * flag s.health.valveFault + 32 * flag s.health.telegramErr
    + 64 * flag s.health.demandMismatch + 128 * flag s.health.journalDrop)

/-- R172: the sticky flags after a read: each is cleared whose standing condition is false or which has none. -/
def State.healthAfterRead (s : State) : Health :=
  { resetSeen := false
    sensorFault := s.health.sensorFault && s.sensorFaultCondition
    valveFault := s.health.valveFault && s.valveFaultCondition
    telegramErr := false
    demandMismatch := s.health.demandMismatch && s.ldu.demand.mismatch
    journalDrop := s.health.journalDrop && 0 < s.jrw.drops }

end Sys2Proof.Machine
end

