-- ==== Sys2Proof/Machine/Ops.lean ====
section
/-! DEFINITION. Machine/Ops.lean: the named operations that every block shares: the counts of time, exchange memory,
the rewrite of a status page section (R161), attention, and the journal (R173, R174). -/

namespace Sys2Proof.Machine

/-! ### Time (Section 0.5.5) -/

/-- The free-running millisecond count. -/
def State.ms (s : State) : Time := BitVec.ofNat 32 (s.uptime / 1000)

/-- The free-running microsecond count. -/
def State.us (s : State) : Time := BitVec.ofNat 32 s.uptime

/-- The time in 0.1 ms, to which MDU keeps its times (R95, log 6). -/
def State.tenths (s : State) : Int := ((s.uptime / 100 : Nat) : Int)

/-- Time passes between two commands (log 1). -/
def State.elapse (s : State) (dt : Nat) : State := { s with uptime := s.uptime + dt }

/-- When a timer of so many milliseconds that starts now is due. -/
def State.after (s : State) (milliseconds : Int) : Option Nat := some (s.uptime + milliseconds.toNat * 1000)

/-- A timer is running and its time has come (log 3). -/
def State.isDue (s : State) : Option Nat → Bool
  | none => false
  | some t => decide (t ≤ s.uptime)

/-- Time since a stored millisecond count. -/
def State.since (s : State) (start : Time) : Int := elapsed s.ms start

/-- The age shown for a stored time that may be absent: 0 when it is (R55, R93, R114, R134). -/
def State.ageOf (s : State) : Option Time → Int
  | none => 0
  | some t => s.since t

/-- R3, R19, R58, R97, R117, R136, R143: the blocks run while the device state is UNCONFIGURED or ACTIVE. -/
def State.isRunning (s : State) : Bool :=
  match s.xpt.device with
  | .unconfigured | .active => true
  | .start | .safe => false

/-! ### Exchange memory -/

/-- The size of the address space (R158). -/
def addressSpace : Nat := 0x4000

/-- The first register address: memory proper lies below it (Table 10.1). -/
def registerBase : Nat := 0x3FF0

/-- The canonical form from an address on: addresses strictly rising, below the registers, and no byte 0. -/
def Memory.wfFrom (lo : Nat) : Memory → Bool
  | [] => true
  | (a, b) :: m => decide (lo ≤ a) && decide (a < registerBase) && b != 0 && Memory.wfFrom (a + 1) m

/-- The canonical form of exchange memory. -/
def Memory.wf (m : Memory) : Bool := Memory.wfFrom 0 m

/-- The byte at an address; an unlisted address reads 0. -/
def Memory.byte : Memory → Nat → Byte
  | [], _ => 0
  | (k, b) :: m, a => if k = a then b else Memory.byte m a

/-- The cells that list consecutive bytes: a byte 0 is not listed. -/
def Memory.cells (a : Nat) : List Byte → Memory
  | [] => []
  | b :: bs => if b = 0 then Memory.cells (a + 1) bs else (a, b) :: Memory.cells (a + 1) bs

/-- Memory with consecutive bytes written from an address on. Every write of the part and of the host goes through
this one operation. -/
def Memory.write (m : Memory) (a : Nat) (bs : List Byte) : Memory :=
  m.filter (fun c => decide (c.1 < a)) ++ (Memory.cells a bs ++ m.filter (fun c => decide (a + bs.length ≤ c.1)))

/-- A 16-bit word, little-endian (Section 0.5.4). -/
def Memory.half (m : Memory) (a : Nat) : Nat := (Memory.byte m a).toNat + 256 * (Memory.byte m (a + 1)).toNat

/-- A 32-bit word, little-endian (Section 0.5.4). -/
def Memory.word (m : Memory) (a : Nat) : Nat := Memory.half m a + 65536 * Memory.half m (a + 2)

/-- Table 10.2: the base of each group's setting table. -/
def Request.tableBase (r : Request) : Nat := 0x100 * r.index

/-- R159: the first n fields of a group's setting table, as its words stand. -/
def State.settingWords (s : State) (r : Request) (n : Nat) : List Nat :=
  (List.range n).map (fun i => Memory.word s.mem (r.tableBase + 4 * i))

/-- Memory written at an address. -/
def State.store8 (s : State) (a : Nat) (bs : List Byte) : State := { s with mem := Memory.write s.mem a bs }

/-! ### Status page sections (R161) -/

/-- Table 10.4: the sections of the status page. -/
inductive Section where
  | device | sensors | demand | lift | wheels | slip | modulator | rollover | tyres | air | journal
  deriving DecidableEq, Repr

/-- Table 10.4: where a section begins. -/
def Section.base : Section → Nat
  | .device => 0x0C00
  | .sensors => 0x0C80
  | .demand => 0x0D00
  | .lift => 0x0DC0
  | .wheels => 0x0E00
  | .slip => 0x0EC0
  | .modulator => 0x0F80
  | .rollover => 0x1040
  | .tyres => 0x1100
  | .air => 0x1380
  | .journal => 0x13C0

/-- Table 10.4: the size of a section. -/
def Section.size : Section → Nat
  | .device => 128
  | .sensors => 128
  | .demand => 192
  | .lift => 64
  | .wheels => 192
  | .slip => 192
  | .modulator => 192
  | .rollover => 192
  | .tyres => 640
  | .air => 64
  | .journal => 64

/-- R161: the head stamp standing in a section, in the lower half of its last word. -/
def State.headStamp (s : State) (sec : Section) : Nat := Memory.half s.mem (sec.base + sec.size - 4)

/-- R161: the bytes of a section: tail stamp word, body, head stamp word, the two stamps equal. -/
def sectionBytes (sec : Section) (stamp : Nat) (body : List Item) : List Byte :=
  bytes32 stamp ++ (fitBytes (sec.size - 8) (packItems 4 body) ++ bytes32 stamp)

/-- R161: a rewrite of a section, whose stamps count on from the head stamp standing in it. Inside one step no access
falls between its words (log 2). -/
def State.rewrite (s : State) (sec : Section) (body : List Item) : State :=
  s.store8 sec.base (sectionBytes sec ((s.headStamp sec + 1) % 65536) body)

/-! ### Attention -/

/-- R168: an edge source raises an event on a level. -/
def State.raise (s : State) (l : Level) : State := { s with atc := s.atc.raise l }

/-- R168: a level source's owner holds its condition. -/
def State.holdCondition (s : State) (l : Level) (c : Bool) : State := { s with atc := s.atc.follow l c }

/-! ### The journal -/

/-- Table 11.4: the record kinds. -/
inductive RecordKind where
  | demandStale | demandFresh | mismatch | slipEpisode | rollStage | rollTest | liftMove | tyreState | airLevel
  | allowance | fault | take | deviceState | gap
  deriving DecidableEq, Repr

/-- Table 11.4: the code of a record kind. -/
def RecordKind.code : RecordKind → Nat
  | .demandStale => 1
  | .demandFresh => 2
  | .mismatch => 3
  | .slipEpisode => 4
  | .rollStage => 5
  | .rollTest => 6
  | .liftMove => 7
  | .tyreState => 8
  | .airLevel => 9
  | .allowance => 10
  | .fault => 11
  | .take => 12
  | .deviceState => 13
  | .gap => 14

/-- A record as an owner hands it to JRW. -/
structure Record where
  kind : RecordKind
  subject : Nat
  info : Nat
  a : Int
  b : Int
  deriving DecidableEq, Repr

/-- R173: where the journal begins. -/
def journalBase : Nat := 0x1400

/-- R175: the kind enables let a record be written. GAP cannot be disabled. -/
def ReportGroup.enables (g : ReportGroup) (k : RecordKind) : Bool :=
  match k with
  | .gap => true
  | _ => g.kinds.getLsbD k.code

/-- Table 11.3: the sixteen bytes of a record; a negative value stands in two's complement (log 36). -/
def Record.bytes (r : Record) (time : Time) : List Byte :=
  BitVec.ofNat 8 r.kind.code :: BitVec.ofNat 8 r.subject ::
    (bytes16 r.info ++ (bytes32 time.toNat ++ (bytes32 (signed32 r.a) ++ bytes32 (signed32 r.b))))

/-- R174: occupied, free and the warning flag from W and the valid release count. -/
def Jrw.recount (j : Jrw) : Jrw :=
  let occupied := (j.w - j.rel).toNat
  { j with occupied := occupied, free := 64 - occupied, warning := decide (64 - occupied ≤ j.group.warningLevel) }

/-- R174: the body of the journal section. The ignored bits of the kind enables are shown as 0 (log 41). -/
def Jrw.body (j : Jrw) : List Item :=
  [.half j.w.toNat, .half j.rel.toNat, .half j.occupied, .half j.free, .half j.drops, .flag j.warning, .half j.ignored,
    .half j.group.kinds.toNat, .half j.group.warningLevel]

/-- R174: JRW rewrites its section. -/
def State.rewriteJournal (s : State) : State := s.rewrite .journal s.jrw.body

/-- R174: JRW holds its JOURNAL condition as occupied above 0. -/
def State.followJournal (s : State) : State := s.holdCondition .journal (decide (0 < s.jrw.occupied))

/-- R174: the release count is read and checked, and occupied, free and the warning flag follow. -/
def Jrw.judged (j : Jrw) (value : Half) : Jrw :=
  if (j.w - value).toNat ≤ 64 then { j with rel := value }.recount
  else { j with ignored := count16 j.ignored }.recount

/-- R174: what of JRW a judgement must change for the section to be rewritten. -/
def Jrw.judgedFields (j : Jrw) : Nat × Half × Bool × Nat := (j.occupied, j.rel, j.warning, j.ignored)

/-- R174: where the host writes the release count. -/
def releaseAddress : Nat := 0x0810

/-- R174: JRW judges the journal's room. -/
def State.judgeRoom (s : State) : State :=
  let j := s.jrw.judged (BitVec.ofNat 16 (Memory.half s.mem releaseAddress))
  let t := { s with jrw := j }.followJournal
  if j.judgedFields = s.jrw.judgedFields then t else t.rewriteJournal

/-- R173: JRW writes a record into slot W modulo 64, counts it and rewrites its section. The counts, the warning flag and
the JOURNAL condition that the record leaves (R174) stand before that rewrite, so the section shows them (log 44). -/
def State.writeRecord (s : State) (r : Record) : State :=
  let t := s.store8 (journalBase + 16 * (s.jrw.w.toNat % 64)) (r.bytes s.ms)
  ({ t with jrw := { s.jrw with w := s.jrw.w + 1 }.recount }.followJournal).rewriteJournal

/-- R173: a record is dropped and counted. -/
def State.dropRecord (s : State) : State :=
  { s with jrw := { s.jrw with drops := count16 s.jrw.drops }
           health := { s.health with journalDrop := true } }.rewriteJournal

/-- R173: the GAP record that tells of n dropped records. -/
def gapRecord (n : Nat) : Record := { kind := .gap, subject := 0, info := 0, a := n, b := 0 }

/-- R173: JRW acts on the drop count and free, after the judgement. The section is rewritten after each record written or
dropped (R174): twice where a GAP is written and the record is dropped or written after it. The drop beside a GAP sets
JOURNAL_DROP too (log 35). -/
def State.placeRecord (s : State) (r : Record) : State :=
  if s.jrw.free = 0 then s.dropRecord
  else if s.jrw.drops = 0 then s.writeRecord r
  else if s.jrw.free = 1 then
    ({ s with jrw := { s.jrw with drops := 0 }
              health := { s.health with journalDrop := true } }.writeRecord (gapRecord (s.jrw.drops + 1))).rewriteJournal
  else ({ s with jrw := { s.jrw with drops := 0 } }.writeRecord (gapRecord s.jrw.drops)).writeRecord r

/-- R173: a record handed to JRW. A record of a disabled kind is discarded and counted nowhere. -/
def State.hand (s : State) (r : Record) : State :=
  if s.jrw.group.enables r.kind then s.judgeRoom.placeRecord r else s

/-! ### Reading the blocks -/

/-- The entry of an input. -/
def State.entry (s : State) (i : Input) : Entry := s.sfe.entries.get i

/-- The value field of an input's entry. -/
def State.value (s : State) (i : Input) : Int := (s.entry i).value

/-- R2: the entry is VALID or STALE. -/
def State.valid (s : State) (i : Input) : Bool := (s.entry i).state.isValid

/-- R10: the delivered-pressure input of a channel. -/
def Channel.pd : Channel → Input
  | .front => .pdFront
  | .left => .pdLeft
  | .right => .pdRight

/-- The Pd value field of a channel. -/
def State.pd (s : State) (c : Channel) : Int := s.value (Channel.pd c)

/-- R36: Pmax in force. -/
def State.pmax (s : State) : Int := s.ldu.load.pmax

end Sys2Proof.Machine
end

