-- ==== Sys2Proof/Machine/Settings.lean ====
section
/-! DEFINITION. Machine/Settings.lean: the setting groups of Tables 2.9, 2.10, 3.4, 5.5, 6.6, 7.4, 8.4, 9.2 and R175: the
check column, the refusal checks, the group made of the clamped fields, and the group as its owner's section shows it. -/

namespace Sys2Proof.Machine

/-- A field as a quantity. -/
def fieldInt (ws : List Nat) (i : Nat) : Int := (field ws i : Int)

/-! ### VEHICLE (R35, R38) -/

/-- The check column of Table 2.9. -/
def VehicleGroup.checks : List FieldCheck :=
  [.asWritten, .asWritten,
    .clamped 0 600, .clamped 0 2000, .clamped 0 4095, .clamped 0 2000, .clamped 0 2000, .asWritten,
    .clamped 0 600, .clamped 0 2000, .clamped 0 4095, .clamped 0 2000, .clamped 0 2000, .asWritten,
    .clamped 1000 5000, .clamped 20 250,
    .asWritten, .asWritten, .asWritten, .asWritten, .asWritten, .asWritten]

/-- The refusal checks of Table 2.9 on the clamped fields, in index order; LIFT with UNUSED reports index 1 (R38). -/
def VehicleGroup.refusals (ws : List Nat) : List (Nat × Bool) :=
  [(0, decide (1 < field ws 0)),
    (1, decide (1 < field ws 1) || (field ws 0 == 1 && field ws 1 == 0)),
    (6, decide (field ws 6 ≤ field ws 5)),
    (7, decide (field ws 7 < 819) || decide (4096 < field ws 7)),
    (12, decide (field ws 12 ≤ field ws 11)),
    (13, decide (field ws 13 < 819) || decide (4096 < field ws 13)),
    (16, decide (1 < field ws 16)), (17, decide (1 < field ws 17)), (18, decide (1 < field ws 18)),
    (19, decide (1 < field ws 19)), (20, decide (1 < field ws 20)), (21, decide (1 < field ws 21))]

/-- The curve of an axle group from the six fields that begin at an index. -/
def Curve.ofFields (ws : List Nat) (i : Nat) : Curve :=
  { b0 := fieldInt ws i, l0 := fieldInt ws (i + 1), g := fieldInt ws (i + 2), lempty := fieldInt ws (i + 3)
    lladen := fieldInt ws (i + 4), e := fieldInt ws (i + 5) }

/-- The group of accepted fields. -/
def VehicleGroup.ofFields (ws : List Nat) : VehicleGroup :=
  { kind := if field ws 0 = 1 then .lift else .fixed
    bellowsUsed := field ws 1 == 1
    front := Curve.ofFields ws 2
    rear := Curve.ofFields ws 8
    circumference := fieldInt ws 14
    teeth := fieldInt ws 15
    fitted := PerWheel.tabulate (fun w => field ws (16 + w.index) == 1) }

/-- The six curve settings as items. -/
def Curve.items (c : Curve) : List Item := [.int c.b0, .int c.l0, .int c.g, .int c.lempty, .int c.lladen, .int c.e]

/-- R40: the group as the LDU section shows it, each field 0 while none is in force. -/
def vehicleItems : Option VehicleGroup → List Item
  | none => List.replicate 22 (.half 0)
  | some v =>
    [.half (match v.kind with | .fixed => 0 | .lift => 1), .flag v.bellowsUsed]
      ++ (v.front.items ++ (v.rear.items
      ++ ([.int v.circumference, .int v.teeth] ++ v.fitted.toList.map Item.flag)))

/-! ### LOAD (R36, R54) -/

/-- The check columns of Tables 2.10 and 3.4. -/
def LoadGroup.checks : List FieldCheck :=
  [.clamped 20 500, .clamped 50 300, .clamped 0 50, .clamped 0 100, .clamped 300 1000,
    .asWritten, .clamped 0 4096, .clamped 0 4096, .clamped 1000 60000, .clamped 50 1000, .clamped 10 300,
    .clamped 0 200, .clamped 1000 20000, .clamped 500 10000]

/-- The refusal checks of Table 3.4 on the clamped fields. -/
def LoadGroup.refusals (ws : List Nat) : List (Nat × Bool) :=
  [(5, decide (1 < field ws 5)), (7, decide (field ws 7 ≤ field ws 6)), (11, decide (field ws 10 ≤ field ws 11))]

/-- The group of accepted fields. -/
def LoadGroup.ofFields (ws : List Nat) : LoadGroup :=
  { demandTimeout := fieldInt ws 0, mismatchLimit := fieldInt ws 1, releaseThreshold := fieldInt ws 2
    knee := fieldInt ws 3, pmax := fieldInt ws 4, autoMode := field ws 5 == 1, raiseRatio := fieldInt ws 6
    lowerRatio := fieldInt ws 7, raiseDelay := fieldInt ws 8, lowerDemand := fieldInt ws 9
    loweredConfirm := fieldInt ws 10, raisedConfirm := fieldInt ws 11, moveTimeout := fieldInt ws 12
    raisedDwell := fieldInt ws 13 }

/-- The lift settings as the lift section shows them (R55). -/
def LoadGroup.liftItems (g : LoadGroup) : List Item :=
  [.flag g.autoMode, .int g.raiseRatio, .int g.lowerRatio, .int g.raiseDelay, .int g.lowerDemand, .int g.loweredConfirm,
    .int g.raisedConfirm, .int g.moveTimeout, .int g.raisedDwell]

/-- The group as the LDU section shows it (R40). -/
def LoadGroup.items (g : LoadGroup) : List Item :=
  [.int g.demandTimeout, .int g.mismatchLimit, .int g.releaseThreshold, .int g.knee, .int g.pmax] ++ g.liftItems

/-! ### SLIP (R90, R91) -/

/-- The check column of Table 5.5. -/
def SlipGroup.checks : List FieldCheck :=
  [.clamped 50 500, .clamped 50 900, .clamped 20 800, .clamped 10 400, .clamped 0 400, .clamped 10 200,
    .clamped 10 200, .clamped 0 15, .asWritten, .asWritten, .asWritten] ++ List.replicate 16 (.clamped 0 255)

/-- The refusal checks of Table 5.5 on the clamped fields: a slope table that falls reports the first entry below the
one before it. -/
def SlipGroup.refusals (ws : List Nat) : List (Nat × Bool) :=
  [(2, decide (field ws 1 ≤ field ws 2)), (8, decide (2 < field ws 8)), (9, decide (2 < field ws 9)),
    (10, decide (2 < field ws 10))]
    ++ (List.range 15).map (fun k => (12 + k, decide (field ws (12 + k) < field ws (11 + k))))

/-- The span of a code. -/
def Span.ofCode : Nat → Span
  | 1 => .lower
  | 2 => .upper
  | _ => .all

/-- The code of a span. -/
def Span.code : Span → Nat
  | .all => 0
  | .lower => 1
  | .upper => 2

/-- The group of accepted fields. -/
def SlipGroup.ofFields (ws : List Nat) : SlipGroup :=
  { vmin := fieldInt ws 0, ldump := fieldInt ws 1, lhold := fieldInt ws 2, adump := fieldInt ws 3
    areaccel := fieldInt ws 4, holdTime := fieldInt ws 5, stepTime := fieldInt ws 6, startIndex := field ws 7
    spans := PerChannel.tabulate (fun c => Span.ofCode (field ws (8 + c.index)))
    slope := (List.range 16).map (fun k => fieldInt ws (11 + k)) }

/-- The group as the SCU section shows it (R93). -/
def SlipGroup.items (g : SlipGroup) : List Item :=
  [.int g.vmin, .int g.ldump, .int g.lhold, .int g.adump, .int g.areaccel, .int g.holdTime, .int g.stepTime,
    .half g.startIndex] ++ (g.spans.toList.map (fun p => .half p.code) ++ g.slope.map Item.int)

/-! ### VALVE (R112, R113) -/

/-- The check column of Table 6.6. -/
def ValveGroup.checks : List FieldCheck :=
  [.clamped 5 20, .clamped 2 50, .clamped 16 1024, .clamped 16 1024, .clamped 2 20, .clamped 5 30, .clamped 50 300,
    .clamped 200 5000]

/-- The refusal check of Table 6.6 on the clamped fields, the valve period taken in 0.1 ms. -/
def ValveGroup.refusals (ws : List Nat) : List (Nat × Bool) :=
  [(4, decide (field ws 0 * 10 ≤ field ws 4 + field ws 5))]

/-- The group of accepted fields. -/
def ValveGroup.ofFields (ws : List Nat) : ValveGroup :=
  { period := fieldInt ws 0, deadZone := fieldInt ws 1, kin := fieldInt ws 2, kout := fieldInt ws 3
    minWidth := fieldInt ws 4, deadBand := fieldInt ws 5, trackingLimit := fieldInt ws 6, trackingTime := fieldInt ws 7 }

/-- The group as the MDU section shows it (R114). -/
def ValveGroup.items (g : ValveGroup) : List Item :=
  [.int g.period, .int g.deadZone, .int g.kin, .int g.kout, .int g.minWidth, .int g.deadBand, .int g.trackingLimit,
    .int g.trackingTime]

/-! ### ROLL (R133) -/

/-- The check column of Table 7.4. -/
def RollGroup.checks : List FieldCheck :=
  [.clamped 100 1500, .clamped 100 1500, .clamped 0 200, .clamped 0 4096, .clamped 0 4096, .clamped 0 4000,
    .clamped 100 1000, .clamped 200 60000, .clamped 100 1000, .clamped 0 200, .clamped 0 200, .clamped 100 1000,
    .clamped 0 1000, .clamped 1 200, .clamped 0 1000, .clamped 0 256, .clamped 100 5000, .clamped 100 5000]

/-- The refusal checks of Table 7.4 on the clamped fields. -/
def RollGroup.refusals (ws : List Nat) : List (Nat × Bool) :=
  [(1, decide (field ws 0 < field ws 1)), (4, decide (field ws 4 < field ws 3)), (14, decide (field ws 14 < field ws 12))]

/-- The group of accepted fields. -/
def RollGroup.ofFields (ws : List Nat) : RollGroup :=
  { aEmpty := fieldInt ws 0, aLaden := fieldInt ws 1, sloshPenalty := fieldInt ws 2, sloshLow := fieldInt ws 3
    sloshHigh := fieldInt ws 4, vrollMin := fieldInt ws 5, transferLimit := fieldInt ws 6, testInterval := fieldInt ws 7
    testDuration := fieldInt ws 8, pTest := fieldInt ws 9, testSuppress := fieldInt ws 10, llift := fieldInt ws 11
    pRollStart := fieldInt ws 12, rampStep := fieldInt ws 13, pRollMax := fieldInt ws 14, innerShare := fieldInt ws 15
    releaseTime := fieldInt ws 16, holdoffTime := fieldInt ws 17 }

/-- The group as the ROU section shows it (R134). -/
def RollGroup.items (g : RollGroup) : List Item :=
  [.int g.aEmpty, .int g.aLaden, .int g.sloshPenalty, .int g.sloshLow, .int g.sloshHigh, .int g.vrollMin,
    .int g.transferLimit, .int g.testInterval, .int g.testDuration, .int g.pTest, .int g.testSuppress, .int g.llift,
    .int g.pRollStart, .int g.rampStep, .int g.pRollMax, .int g.innerShare, .int g.releaseTime, .int g.holdoffTime]

/-! ### TYRE (R146) -/

/-- An entry of a roster. -/
structure RosterEntry where
  id : Nat
  wheel : Nat
  position : Nat
  pNom : Nat
  deriving DecidableEq, Repr

/-- How many words the TYRE table has: nine fields and twelve entries of four. -/
def tyreWords : Nat := 57

/-- The check column of Table 8.4 for a group of so many entries. -/
def TyreGroup.checks (entries : Nat) : List FieldCheck :=
  [.clamped 50 95, .clamped 60 99, .clamped 1 200, .clamped 60 3600, .clamped 0 1024, .clamped 0 60, .clamped 0 60,
    .clamped 0 60, .clamped 0 12]
    ++ (List.range entries).flatMap (fun _ => [.asWritten, .asWritten, .asWritten, .clamped 100 1200])

/-- The clamped entry count of the words as written. -/
def TyreGroup.entries (ws : List Nat) : Nat := (FieldCheck.clamped 0 12).apply (field ws 8)

/-- Entry k of clamped fields. -/
def RosterEntry.ofFields (ws : List Nat) (k : Nat) : RosterEntry :=
  { id := field ws (9 + 4 * k), wheel := field ws (10 + 4 * k), position := field ws (11 + 4 * k)
    pNom := field ws (12 + 4 * k) }

/-- R146: a position repeats or mixes with an earlier entry of the same wheel end. -/
def RosterEntry.clashes (e earlier : RosterEntry) : Bool :=
  e.wheel == earlier.wheel && (e.position == earlier.position || e.position == 0 || earlier.position == 0)

/-- The refusal checks of entry k against the entries before it. -/
def RosterEntry.refusals (ws : List Nat) (k : Nat) : List (Nat × Bool) :=
  let e := RosterEntry.ofFields ws k
  let earlier := (List.range k).map (RosterEntry.ofFields ws)
  [(9 + 4 * k, e.id == 0 || e.id == 0xFFFFFFFF || earlier.any (fun x => x.id == e.id)),
    (10 + 4 * k, decide (5 < e.wheel)),
    (11 + 4 * k, decide (2 < e.position) || earlier.any (fun x => e.clashes x))]

/-- The refusal checks of Table 8.4 on the clamped fields. -/
def TyreGroup.refusals (entries : Nat) (ws : List Nat) : List (Nat × Bool) :=
  (1, decide (field ws 1 ≤ field ws 0)) :: (List.range entries).flatMap (RosterEntry.refusals ws)

/-- The group of accepted fields. -/
def TyreGroup.ofFields (ws : List Nat) : TyreGroup :=
  { criticalPct := fieldInt ws 0, lowPct := fieldInt ws 1, leakThreshold := fieldInt ws 2, silentTime := fieldInt ws 3
    kr := fieldInt ws 4, lowPenalty := fieldInt ws 5, criticalPenalty := fieldInt ws 6, penaltyLimit := fieldInt ws 7
    entryCount := field ws 8 }

/-- The group as the TYU section shows it, without its roster entries (R148). -/
def TyreGroup.items (g : TyreGroup) : List Item :=
  [.int g.criticalPct, .int g.lowPct, .int g.leakThreshold, .int g.silentTime, .int g.kr, .int g.lowPenalty,
    .int g.criticalPenalty, .int g.penaltyLimit, .half g.entryCount]

/-! ### AIR (R155) -/

/-- The check column of Table 9.2. -/
def AirGroup.checks : List FieldCheck :=
  [.clamped 200 900, .clamped 100 800, .clamped 300 1200, .clamped 0 50, .clamped 0 255, .clamped 0 255, .asWritten,
    .clamped 10000 600000]

/-- The refusal checks of Table 9.2 on the clamped fields. -/
def AirGroup.refusals (ws : List Nat) : List (Nat × Bool) :=
  [(1, decide (field ws 0 ≤ field ws 1)), (2, decide (field ws 2 ≤ field ws 0)), (6, decide (1 < field ws 6))]

/-- The group of accepted fields. -/
def AirGroup.ofFields (ws : List Nat) : AirGroup :=
  { reserve := fieldInt ws 0, critical := fieldInt ws 1, reload := fieldInt ws 2, hysteresis := fieldInt ws 3
    testBase := fieldInt ws 4, liftBase := fieldInt ws 5, autoReload := field ws 6 == 1, interval := fieldInt ws 7 }

/-- The group as the AAC section shows it (R156); the reload interval does not fit in 16 bits. -/
def AirGroup.items (g : AirGroup) : List Item :=
  [.int g.reserve, .int g.critical, .int g.reload, .int g.hysteresis, .int g.testBase, .int g.liftBase,
    .flag g.autoReload, .int32 g.interval]

/-! ### REPORT (R175) -/

/-- The check column of R175: the other bits of the kind enables are ignored, not clamped. -/
def ReportGroup.checks : List FieldCheck := [.asWritten, .clamped 0 32]

/-- The group of accepted fields; bits other than 1 to 13 of the kind enables are ignored, and are held and shown as 0
(log 41). -/
def ReportGroup.ofFields (ws : List Nat) : ReportGroup :=
  { kinds := BitVec.ofNat 16 (field ws 0) &&& 0x3FFE, warningLevel := field ws 1 }

/-! ### Validation -/

/-- A group's outcome and its clamped fields: clamp and count, then the refusal checks on the clamped fields. -/
def validate (checks : List FieldCheck) (refusals : List Nat → List (Nat × Bool)) (ws : List Nat) : Outcome × List Nat :=
  let clamped := clampFields checks ws
  (outcomeOf (refusals clamped) (clampCount checks ws), clamped)

end Sys2Proof.Machine
end

