-- ==== Sys2Proof/Machine/Take.lean ====
section
/-! DEFINITION. Machine/Take.lean: XPT's part in a take (R163, R164), its section, and the DEVICE_STATE record (R165). -/

namespace Sys2Proof.Machine

/-- R164: the result codes. -/
def TakeResult.code : TakeResult → Nat
  | .none => 0
  | .accepted => 1
  | .acceptedClamped => 2
  | .refused => 3

/-- R164: the device state codes. -/
def Device.code : Device → Nat
  | .start => 0
  | .unconfigured => 1
  | .active => 2
  | .safe => 3

/-- R164: a request's report after one more outcome. -/
def TakeReport.after (r : TakeReport) (o : Outcome) : TakeReport :=
  let count := (r.count + 1) % 65536
  match o with
  | .accepted => { result := .accepted, detail := 0, count := count }
  | .acceptedClamped n => { result := .acceptedClamped, detail := n, count := count }
  | .refused i => { result := .refused, detail := i, count := count }

/-- R164: the body of the device section. -/
def State.deviceBody (s : State) : List Item :=
  [.half s.xpt.device.code, .word s.ms.toNat, .half s.xpt.loadSum]
    ++ s.xpt.reports.toList.flatMap (fun r => [.half r.result.code, .half r.detail, .half r.count])

/-- R164, R165: XPT rewrites the device section. -/
def State.rewriteDevice (s : State) : State := s.rewrite .device s.deviceBody

/-- R164: the TAKE record of a request's report. -/
def takeRecord (r : Request) (t : TakeReport) : Record :=
  { kind := .take, subject := r.index, info := t.result.code, a := t.detail, b := t.count }

/-- R164: XPT sets result, detail and take count, rewrites its section, clears the pending bit, raises TAKE attention
and hands a TAKE record, in this order. -/
def State.takeOutcome (s : State) (r : Request) (o : Outcome) : State :=
  let report := (s.xpt.reports.get r).after o
  let s1 := { s with xpt := { s.xpt with reports := s.xpt.reports.set r report } }.rewriteDevice
  let s2 := { s1 with xpt := { s1.xpt with pending := s1.xpt.pending.set r false } }.raise .take
  s2.hand (takeRecord r report)

/-- R163: the request joins the pending set. -/
def State.setPending (s : State) (r : Request) : State :=
  { s with xpt := { s.xpt with pending := s.xpt.pending.set r true } }

/-- R163: the request is pending. -/
def State.isPending (s : State) (r : Request) : Bool := s.xpt.pending.get r

/-- R165: a DEVICE_STATE record. -/
def deviceRecord (old new : Device) (sum : Nat) : Record :=
  { kind := .deviceState, subject := 0, info := old.code * 256 + new.code, a := sum, b := 0 }

/-- R165: the device state changes; XPT hands the DEVICE_STATE record and rewrites its section. -/
def State.reportDevice (s : State) (old : Device) : State :=
  (s.hand (deviceRecord old s.xpt.device s.xpt.loadSum)).rewriteDevice

end Sys2Proof.Machine
end

