-- ==== Sys2Proof/Machine/Air.lean ====
section
/-! DEFINITION. Machine/Air.lean: the air account (R150 to R157). -/

namespace Sys2Proof.Machine

/-- R150: the two allowances, TEST subject 0 and LIFT subject 1. -/
inductive AllowanceName where
  | test | lift
  deriving DecidableEq, Repr

/-- R150: the subject of an allowance. -/
def AllowanceName.index : AllowanceName → Nat
  | .test => 0
  | .lift => 1

/-- The fields of an allowance. -/
def Aac.get (a : Aac) : AllowanceName → Allowance
  | .test => a.test
  | .lift => a.lift

/-- The air record with an allowance replaced. -/
def Aac.set (a : Aac) (n : AllowanceName) (x : Allowance) : Aac :=
  match n with
  | .test => { a with test := x }
  | .lift => { a with lift := x }

/-- R150: the base count of an allowance, from the AIR group in force. -/
def Aac.base (a : Aac) : AllowanceName → Int
  | .test => a.group.testBase
  | .lift => a.group.liftBase

/-- R150: an allowance is masked while its current count is 0. -/
def Allowance.masked (a : Allowance) : Bool := a.current == 0

/-- R150: the reserve judgement, from the Pres entry as it stands. -/
def State.belowReserve (s : State) : Bool := !s.valid .pres || decide (s.value .pres < s.aac.group.reserve)

/-- R156: the items of an allowance. -/
def Aac.allowanceItems (a : Aac) (n : AllowanceName) : List Item :=
  [.int (a.base n), .int (a.get n).current, .flag (a.get n).masked, .half (a.get n).grants,
    .half (a.get n).refusedCount, .half (a.get n).refusedReserve]

/-- R156: the body of the air section. -/
def State.airBody (s : State) : List Item :=
  [.flag s.aac.critical, .int32 (s.since s.aac.lastReload)]
    ++ (s.aac.allowanceItems .test ++ (s.aac.allowanceItems .lift ++ s.aac.group.items))

/-- R156: AAC rewrites its section. -/
def State.rewriteAir (s : State) : State := s.rewrite .air s.airBody

/-- R153, R119: AAC hands ROU the mask of the TEST allowance, and ROU sets its degraded flag from it. -/
def State.handTestMask (s : State) : State := { s with rou := { s.rou with degraded := s.aac.test.masked } }

/-- R153 to R155: an ALLOWANCE record. -/
def State.allowanceRecord (s : State) (n : AllowanceName) (info : Nat) (pres : Int) : Record :=
  { kind := .allowance, subject := n.index, info := info, a := (s.aac.get n).current
    b := s.aac.base n * 65536 + pres }

/-- R152: a request is granted when a count is in hand and the reservoir is not below reserve. -/
def State.wouldGrant (s : State) (n : AllowanceName) : Bool := decide (0 < (s.aac.get n).current) && !s.belowReserve

/-- R152: the count of an allowance after AAC's answer. -/
def State.answeredAllowance (s : State) (n : AllowanceName) : Allowance :=
  let x := s.aac.get n
  if s.wouldGrant n then { x with current := x.current - 1, grants := count16 x.grants }
  else if 0 < x.current then { x with refusedReserve := count16 x.refusedReserve }
  else { x with refusedCount := count16 x.refusedCount }

/-- R152, R153: AAC answers a request; the answer is `wouldGrant` of the state before. A grant that spends the last
count masks the allowance, with an ALLOWANCE record and, for TEST, the masking handed to ROU. -/
def State.answerRequest (s : State) (n : AllowanceName) : State :=
  let t := { s with aac := s.aac.set n (s.answeredAllowance n) }
  let u :=
    if s.wouldGrant n && (t.aac.get n).masked then
      let r := t.hand (t.allowanceRecord n 1 (s.value .pres))
      match n with
      | .test => r.handTestMask
      | .lift => r
    else t
  u.rewriteAir

/-- R155: the Pres value of an ALLOWANCE record at an adoption, 0 when Pres is invalid. -/
def State.presOrZero (s : State) : Int := if s.valid .pres then s.value .pres else 0

/-- R155: an accepted AIR group fills both allowances to their new base counts. -/
def State.adoptAirGroup (s : State) (g : AirGroup) : State :=
  let t := { s with aac := { s.aac with
    group := g
    lastReload := s.ms
    test := { s.aac.test with current := g.testBase }
    lift := { s.aac.lift with current := g.liftBase } } }
  let u := (t.hand (t.allowanceRecord .test 3 t.presOrZero)).hand (t.allowanceRecord .lift 3 t.presOrZero)
  if t.aac.test.masked = s.aac.test.masked then u else u.handTestMask

/-- R155: the outcome of the AIR table as it stands, and its clamped fields. -/
def State.airVerdict (s : State) : Outcome × List Nat :=
  validate AirGroup.checks AirGroup.refusals (s.settingWords .air 8)

/-- R155: a pending AIR group is adopted at the reservoir sample. AAC's ALLOWANCE records stand before XPT's TAKE record in
the journal (log 13). -/
def State.adoptAir (s : State) : State :=
  if s.isPending .air then
    let v := s.airVerdict
    let t := if v.1.isAccepted then s.adoptAirGroup (AirGroup.ofFields v.2) else s
    t.takeOutcome .air v.1
  else s

/-- R151: the critical flag judged from the Pres entry. -/
def State.criticalNow (s : State) : Bool :=
  if !s.valid .pres then s.aac.critical
  else if s.aac.critical then decide (s.value .pres < s.aac.group.critical + s.aac.group.hysteresis)
  else decide (s.value .pres < s.aac.group.critical)

/-- R151: AAC judges the critical flag; a change hands an AIR_LEVEL record and moves the SUPPLY condition. -/
def State.judgeCritical (s : State) : State :=
  let c := s.criticalNow
  if c = s.aac.critical then s
  else
    let t := { s with aac := { s.aac with critical := c } }.holdCondition .supply c
    t.hand { kind := .airLevel, subject := 0, info := flag c, a := s.value .pres, b := s.aac.group.critical }

/-- R154: the auto-reload is made at this sample. -/
def State.reloadsNow (s : State) : Bool :=
  s.aac.group.autoReload && s.valid .pres && decide (s.aac.group.reload ≤ s.value .pres)
    && decide (s.aac.group.interval ≤ s.since s.aac.lastReload)

/-- R154: the ALLOWANCE record of a reload, when the count of the allowance changed. -/
def State.reloadRecord (s : State) (before : Int) (n : AllowanceName) : State :=
  if (s.aac.get n).current = before then s else s.hand (s.allowanceRecord n 2 (s.value .pres))

/-- R154: AAC judges the auto-reload. -/
def State.judgeReload (s : State) : State :=
  if s.reloadsNow then
    let t := { s with aac := { s.aac with
      lastReload := s.ms
      test := { s.aac.test with current := s.aac.group.testBase }
      lift := { s.aac.lift with current := s.aac.group.liftBase } } }
    let u := (t.reloadRecord s.aac.test.current .test).reloadRecord s.aac.lift.current .lift
    if t.aac.test.masked = s.aac.test.masked then u else u.handTestMask
  else s

/-- R156: what of the air record a sample must change for the section to be rewritten. -/
def Aac.sampleFields (a : Aac) : Bool × Int × Int := (a.critical, a.test.current, a.lift.current)

/-- Section 9.2: AAC acts at a reservoir sample: adoption, critical flag, auto-reload, in this order; its section
follows an adoption and a change of the flag or of a count (R156, log 26). -/
def State.reservoirSample (s : State) : State :=
  let t := s.adoptAir.judgeCritical.judgeReload
  if (s.isPending .air && s.airVerdict.1.isAccepted) || t.aac.sampleFields ≠ s.aac.sampleFields then t.rewriteAir
  else t

end Sys2Proof.Machine
end

