-- ==== Sys2Proof/Machine/Lift.lean ====
section
/-! DEFINITION. Machine/Lift.lean: lift control (R42 to R56): the lift record, its decisions, the rollover request and the
move timer, and what an entry to RAISING or RAISED hands on (R34, R65). -/

namespace Sys2Proof.Machine

/-- R43, R53: the front axle is FIXED when the VEHICLE group in force declares it so. -/
def State.axleFixed (s : State) : Bool :=
  match s.ldu.vehicle with
  | none => false
  | some v => decide (v.kind = .fixed)

/-- R34, R64: the lift state is RAISING or RAISED. -/
def LiftState.isUp : LiftState → Bool
  | .raising | .raised => true
  | .unknown | .lowered | .lowering => false

/-- R49: the stages in which the axle must not be up. -/
def Stage.intervening : Stage → Bool
  | .brake | .holdoff => true
  | .quiet | .watch | .test => false

/-- R55: the state codes. -/
def LiftState.code : LiftState → Nat
  | .unknown => 0
  | .lowered => 1
  | .raising => 2
  | .raised => 3
  | .lowering => 4

/-- Table 2.2: the codes of the lift requests. -/
def LiftRequest.code : LiftRequest → Nat
  | .auto => 0
  | .lower => 1
  | .raise => 2

/-- Table 3.3: the move cause codes. -/
def MoveCause.code : MoveCause → Nat
  | .auto => 0
  | .hostRaise => 1
  | .ratio => 2
  | .demand => 3
  | .hostLower => 4
  | .bfInvalid => 5
  | .reserve => 6
  | .rollover => 7

/-- R52: the direction codes. -/
def MoveDirection.code : MoveDirection → Nat
  | .raise => 1
  | .lower => 2

/-- R52: the outcome codes. -/
def MoveOutcome.code : MoveOutcome → Nat
  | .completed => 0
  | .timeout => 1
  | .aborted => 2

/-- R55: the last move result as the section shows it, coded as the info of R52 and 0 for NONE (log 15). -/
def lastResultCode : Option (MoveDirection × MoveOutcome) → Nat
  | none => 0
  | some (d, o) => d.code * 256 + o.code

/-- R44: LFC is in automatic operation. -/
def State.autoOperation (s : State) : Bool := s.ldu.load.autoMode && decide (s.lfc.request = .auto)

/-- R55: the body of the lift section. R55 numbers the states alone; the valve is shown OFF 0 and ON 1 (log 15). The move
timer bounds the elapsed time of a move (Table 3.4), so it fits in 16 bits; nothing bounds the other two ages (log 16). -/
def State.liftBody (s : State) : List Item :=
  [.half s.lfc.state.code, .flag s.lfc.valve, .half s.lfc.request.code, .flag s.autoOperation,
    .int32 (s.ageOf s.lfc.lowRatioStart), .int32 (s.ageOf s.lfc.dwellStart), .int (s.ageOf s.lfc.moveStart),
    .half s.lfc.moveCause.code, .half (lastResultCode s.lfc.lastResult), .half s.lfc.refusalCount,
    .half s.lfc.timeoutCount] ++ s.ldu.load.liftItems

/-- R55: LFC rewrites its section. -/
def State.rewriteLift (s : State) : State := s.rewrite .lift s.liftBody

/-- R42: a change of state changes the valve output in the same event. -/
def Lfc.enter (l : Lfc) (state : LiftState) : Lfc := { l with state := state, valve := state.isUp }

/-- The state with the lift record replaced. -/
def State.setLfc (s : State) (l : Lfc) : State := { s with lfc := l }

/-- R34: LDU sets the FRONT P_axle to 0 when LFC enters RAISING or RAISED. -/
def State.zeroFrontTarget (s : State) : State :=
  { s with ldu := { s.ldu with front := { s.ldu.front with pAxle := 0 } } }

/-- R65: LIFTED enters the exclusion set of a wheel end. -/
def WheelEnd.excludeLifted (w : WheelEnd) : WheelEnd :=
  { w with excl := { w.excl with lifted := true }, included := false }

/-- R65: WSU excludes A1L and A1R for LIFTED. -/
def State.excludeLifted (s : State) : State :=
  { s with wsu := { s.wsu with wheels :=
    { s.wsu.wheels with a1l := s.wsu.wheels.a1l.excludeLifted, a1r := s.wsu.wheels.a1r.excludeLifted } } }

/-- R34, R65: LFC hands an entry to RAISING, or to RAISED from UNKNOWN, to LDU and WSU. -/
def State.liftEntry (s : State) : State := s.zeroFrontTarget.excludeLifted

/-- R52: the end of a move: the last move result and the LIFT_MOVE record, which tells the move's own duration and
cause. -/
def State.endMove (s : State) (d : MoveDirection) (o : MoveOutcome) : State :=
  (s.setLfc { s.lfc with lastResult := some (d, o) }).hand
    { kind := .liftMove, subject := 0, info := d.code * 256 + o.code, a := s.ageOf s.lfc.moveStart, b := s.lfc.moveCause.code }

/-- R48: the lowering move begins: valve OFF, move start, cause, and the move timer afresh. -/
def State.beginLowering (s : State) (cause : MoveCause) : State :=
  s.setLfc { s.lfc.enter .lowering with
    moveCause := cause
    moveStart := some s.ms
    moveTimer := s.after s.ldu.load.moveTimeout }

/-- R48: entry to LOWERING; a raise in progress ends ABORTED first, with its own cause. -/
def State.enterLowering (s : State) (cause : MoveCause) : State :=
  (if s.lfc.state = .raising then s.endMove .raise .aborted else s).beginLowering cause

/-- Table 3.2: the first lowering cause that holds, with the D and REAR load ratio handed by LDU; RESERVE applies in
RAISING alone. -/
def State.loweringCause (s : State) : Option MoveCause :=
  if s.autoOperation && s.ldu.rear.valid && decide (s.ldu.load.lowerRatio ≤ s.ldu.rear.r) then some .ratio
  else if s.ldu.load.lowerDemand ≤ s.ldu.demand.d then some .demand
  else if s.lfc.request = .lower then some .hostLower
  else if !s.valid .bf then some .bfInvalid
  else if s.lfc.state = .raising && s.belowReserve then some .reserve
  else none

/-- R44: the low-ratio run after the values LDU handed. -/
def State.updateLowRatio (s : State) : State :=
  s.setLfc { s.lfc with lowRatioStart :=
    if s.ldu.rear.valid && decide (s.ldu.rear.r ≤ s.ldu.load.raiseRatio) then some (s.lfc.lowRatioStart.getD s.ms)
    else none }

/-- R44: the low-ratio run is held for the raise delay. -/
def State.ratioHeld (s : State) : Bool :=
  match s.lfc.lowRatioStart with
  | none => false
  | some t => decide (s.ldu.load.raiseDelay ≤ s.since t)

/-- R45: an axle found up is held: the front axle is not FIXED, no intervention, no lowering cause. -/
def State.mayHold (s : State) : Bool :=
  !s.axleFixed && !s.rou.stage.intervening && s.loweringCause.isNone

/-- R45: the decision in UNKNOWN. -/
def State.decideUnknown (s : State) : State :=
  if !s.valid .bf then s.setLfc { s.lfc with dwellStart := none }
  else if s.ldu.load.loweredConfirm ≤ s.value .bf then s.setLfc { s.lfc.enter .lowered with dwellStart := none }
  else if s.value .bf ≤ s.ldu.load.raisedConfirm then
    let start := s.lfc.dwellStart.getD s.ms
    if decide (s.ldu.load.raisedDwell ≤ s.since start) && s.mayHold then
      (s.setLfc { s.lfc.enter .raised with dwellStart := none }).liftEntry
    else s.setLfc { s.lfc with dwellStart := some start }
  else s.setLfc { s.lfc with dwellStart := none }

/-- R46: raise conditions 1 to 6. -/
def State.raiseWanted (s : State) : Bool :=
  s.ldu.vehicle.isSome && !s.axleFixed && (s.autoOperation || decide (s.lfc.request = .raise)) && s.ratioHeld
    && decide (s.ldu.demand.d = 0) && decide (s.rou.stage = .quiet) && s.valid .bf

/-- R46: a granted raise. -/
def State.beginRaise (s : State) : State :=
  (s.setLfc { s.lfc.enter .raising with
    moveStart := some s.ms
    moveCause := if s.autoOperation then .auto else .hostRaise
    moveTimer := s.after s.ldu.load.moveTimeout }).liftEntry

/-- R46: the raise decision in LOWERED; a refusal is counted. -/
def State.decideLowered (s : State) : State :=
  if s.raiseWanted then
    let t := s.answerRequest .lift
    if s.wouldGrant .lift then t.beginRaise
    else t.setLfc { t.lfc with refusalCount := count16 t.lfc.refusalCount }
  else s

/-- R47, R48: the decision in RAISING: lowering causes first, then the confirmation of the raise. -/
def State.decideRaising (s : State) : State :=
  match s.loweringCause with
  | some cause => s.enterLowering cause
  | none =>
    if s.value .bf ≤ s.ldu.load.raisedConfirm then
      let t := s.endMove .raise .completed
      (t.setLfc { t.lfc.enter .raised with moveTimer := none, moveStart := none }).zeroFrontTarget
    else s

/-- R48: the decision in RAISED. -/
def State.decideRaised (s : State) : State :=
  match s.loweringCause with
  | some cause => s.enterLowering cause
  | none => s

/-- R50: the decision in LOWERING. -/
def State.decideLowering (s : State) : State :=
  if s.valid .bf && decide (s.ldu.load.loweredConfirm ≤ s.value .bf) then
    let t := s.endMove .lower .completed
    t.setLfc { t.lfc.enter .lowered with moveTimer := none, moveStart := none }
  else s

/-- R43: the single decision that belongs to the state; none while a FIXED group is in force (R53). -/
def State.liftDecision (s : State) : State :=
  if s.axleFixed then s
  else
    match s.lfc.state with
    | .unknown => s.decideUnknown
    | .lowered => s.decideLowered
    | .raising => s.decideRaising
    | .raised => s.decideRaised
    | .lowering => s.decideLowering

/-- R43, R55: LFC at an LDU period, with the values LDU has handed: the request, the low-ratio run, the decision and
the section (log 25). -/
def State.liftPeriod (s : State) : State :=
  (s.setLfc { s.lfc with request := s.ldu.demand.liftHanded }).updateLowRatio.liftDecision.rewriteLift

/-- R53: adoption of a FIXED front axle: LOWERED, valve OFF, no move, no record. -/
def State.fixAxle (s : State) : State :=
  if s.axleFixed then
    s.setLfc { s.lfc.enter .lowered with moveTimer := none, dwellStart := none, moveStart := none }
  else s

/-- R49: ROU asks LFC to lower, at an entry to BRAKE. -/
def State.rolloverLowering (s : State) : State :=
  if s.lfc.state.isUp then (s.enterLowering .rollover).rewriteLift else s

/-- R51, R52: the direction of the move in progress. -/
def Lfc.moveDirection (l : Lfc) : MoveDirection := if l.state = .raising then .raise else .lower

/-- R51, R52: the effects of the move timer's expiry. LFC hands the LIFT_MOVE record of R52 and no FAULT record, though
Table 11.4 names LFC beside that kind (log 37). -/
def State.moveTimedOut (s : State) : State :=
  let t := s.endMove s.lfc.moveDirection .timeout
  let u := t.setLfc { t.lfc.enter .unknown with
    moveStart := none
    dwellStart := none
    moveTimer := none
    timeoutCount := count16 t.lfc.timeoutCount }
  (u.raise .fault).rewriteLift

/-- R51: a move is in progress. -/
def LiftState.isMoving : LiftState → Bool
  | .raising | .lowering => true
  | .unknown | .lowered | .raised => false

/-- R51: the move timer expires in RAISING or LOWERING. -/
def State.moveTimerExpired (s : State) : State :=
  if s.lfc.state.isMoving && s.isDue s.lfc.moveTimer then s.moveTimedOut else s

end Sys2Proof.Machine
end

