-- ==== Sys2Proof/Machine/SlipRecords.lean ====
section
/-! DEFINITION. Machine/SlipRecords.lean: the slip records of SCU, the close of an episode (R88), OFF (R77), the BACKUP
entry (R78) and SCU's section (R93). The events of SCU stand in Machine/Slip.lean. -/

namespace Sys2Proof.Machine

/-- The slip record of a channel. -/
def State.slip (s : State) (c : Channel) : SlipRecord := s.scu.channels.get c

/-- The state with a channel's slip record replaced. -/
def State.setSlip (s : State) (c : Channel) (r : SlipRecord) : State :=
  { s with scu := { s.scu with channels := s.scu.channels.set c r } }

/-- R74: DUMP, HOLD and REBUILD are the states of an open episode. -/
def SlipState.inEpisode : SlipState → Bool
  | .dump | .hold | .rebuild => true
  | .pass | .off => false

/-- R93: the state codes. -/
def SlipState.code : SlipState → Nat
  | .pass => 0
  | .dump => 1
  | .hold => 2
  | .rebuild => 3
  | .off => 4

/-- R85: the first index of a span. -/
def Span.base : Span → Nat
  | .all => 0
  | .lower => 0
  | .upper => 8

/-- R85: the last index of a span. -/
def Span.top : Span → Nat
  | .all => 15
  | .lower => 7
  | .upper => 15

/-- R85: the length of a span. -/
def Span.length : Span → Nat
  | .all => 16
  | .lower => 8
  | .upper => 8

/-- The span in force of a channel. -/
def State.span (s : State) (c : Channel) : Span := s.scu.group.spans.get c

/-- R85: the start offset that the start index in force gives a channel. -/
def SlipGroup.startOffset (g : SlipGroup) (c : Channel) : Nat := g.startIndex % (g.spans.get c).length

/-- R88: the end reasons. -/
inductive EndReason where
  | autostop | release | lowSpeed | noWheel | backup
  deriving DecidableEq, Repr

/-- R88: the end reason codes. -/
def EndReason.code : EndReason → Nat
  | .autostop => 0
  | .release => 1
  | .lowSpeed => 2
  | .noWheel => 3
  | .backup => 4

/-- R88: the SLIP_EPISODE record of a channel's open episode. -/
def State.episodeRecord (s : State) (c : Channel) (reason : EndReason) : Record :=
  let r := s.slip c
  { kind := .slipEpisode
    subject := c.index
    info := (if 255 < r.dumps then 255 else r.dumps) * 256 + reason.code
    a := s.ageOf r.episodeStart
    b := r.lock * 65536 + r.minPd.getD 0 }

/-- R88: the slip record after the close of its episode; the rule that closes it sets state and P_slip. -/
def SlipRecord.closed (r : SlipRecord) (offset : Nat) : SlipRecord :=
  { r with episodes := count16 r.episodes, offset := offset, episodeStart := none, minPd := none, dumps := 0 }

/-- R88: an episode closes, with its record and SLIP attention. -/
def State.closeEpisode (s : State) (c : Channel) (reason : EndReason) : State :=
  let t := s.setSlip c ((s.slip c).closed (s.scu.group.startOffset c))
  (t.hand (s.episodeRecord c reason)).raise .slip

/-- R77: the slip record of a channel that must be OFF. -/
def SlipRecord.toOff (r : SlipRecord) (pmax : Int) : SlipRecord :=
  { r with state := .off, pSlip := pmax, holdTimer := none, stepTimer := none
           suppressed := if r.state = .pass then false else r.suppressed }

/-- R77: a channel that must be OFF; an open episode closes with the reason given. -/
def State.slipOff (s : State) (c : Channel) (reason : EndReason) : State :=
  let t := if (s.slip c).state.inEpisode then s.closeEpisode c reason else s
  t.setSlip c ((t.slip c).toOff s.pmax)

/-- R93: the items of a slip record. -/
def State.slipItems (s : State) (c : Channel) : List Item :=
  let r := s.slip c
  [.half r.state.code, .half (match r.wheel with | none => 0xFF | some w => w.index), .int r.pSlip, .int r.lock,
    .half r.index, .half r.offset, .half r.dumps, .int (r.minPd.getD 0), .int32 (s.ageOf r.episodeStart),
    .flag r.suppressed, .half r.deferrals, .half r.episodes]

/-- R93: the body of the slip section. -/
def State.slipBody (s : State) : List Item :=
  s.slipItems .front ++ (s.slipItems .left ++ (s.slipItems .right ++ s.scu.group.items))

/-- R93: SCU rewrites its section. -/
def State.rewriteSlip (s : State) : State := s.rewrite .slip s.slipBody

/-- R78: MDU hands SCU a BACKUP entry, naming the channels in the order FRONT, LEFT, RIGHT; the section follows when a
slip record changed. -/
def State.backupEntry (s : State) (named : List Channel) : State :=
  let t := named.foldl (fun u c => u.slipOff c .backup) s
  if t.scu.channels = s.scu.channels then t else t.rewriteSlip

end Sys2Proof.Machine
end

