-- ==== Sys2Proof/Machine/Modulator.lean ====
section
/-! DEFINITION. Machine/Modulator.lean: the modulator drive (R95 to R115): channel records, BACKUP, causes, composition,
pulses, the immediate dump, clearing of faults, and MDU's events. -/

namespace Sys2Proof.Machine

/-! ### Channel records, units and the section -/

/-- The channel record of a channel. -/
def State.chan (s : State) (c : Channel) : ChannelRecord := s.mdu.channels.get c

/-- The state with a channel record replaced. -/
def State.setChan (s : State) (c : Channel) (r : ChannelRecord) : State :=
  { s with mdu := { s.mdu with channels := s.mdu.channels.set c r } }

/-- R96: the two units: FRONT by itself, LEFT and RIGHT together. -/
inductive DriveUnit where
  | front | rear
  deriving DecidableEq, Repr

/-- R96: the unit of a channel. -/
def Channel.unit : Channel → DriveUnit
  | .front => .front
  | .left => .rear
  | .right => .rear

/-- R96: the channels of a unit. -/
def DriveUnit.channels : DriveUnit → List Channel
  | .front => [.front]
  | .rear => [.left, .right]

/-- R96: the mode of a unit; both rear channels have the same. -/
def State.unitMode (s : State) : DriveUnit → Mode
  | .front => (s.chan .front).mode
  | .rear => (s.chan .left).mode

/-- R114: the phase codes. -/
def Phase.code : Phase → Nat
  | .closed => 0
  | .energised .inlet => 1
  | .energised .outlet => 2

/-- R114: the indication codes. -/
def Indication.code : Indication → Nat
  | .ok => 0
  | .openLoad => 1
  | .short => 2

/-- R114: the mode codes. -/
def Mode.code : Mode → Nat
  | .regulate => 0
  | .backup => 1

/-- Table 6.2: one flag for each cause, in the table's order (log 14). -/
def CauseSet.items (c : CauseSet) : List Item :=
  [.flag c.inletOpen, .flag c.inletShort, .flag c.outletOpen, .flag c.outletShort, .flag c.pdFault, .flag c.tracking,
    .flag c.sourceNone, .flag c.notActive]

/-- The smaller of two quantities. -/
def least (a b : Int) : Int := if a ≤ b then a else b

/-- The larger of two quantities. -/
def greatest (a b : Int) : Int := if a ≤ b then b else a

/-- R99: the command pressure in force, P_cmd bounded at each moment by the posted slip limit and by Pmax. -/
def State.commandInForce (s : State) (c : Channel) : Int :=
  least (s.chan c).pCmd (least (s.slip c).pSlip s.pmax)

/-- R114: the age of the tracking run in milliseconds, 0 when absent (log 16). -/
def State.trackingAge (s : State) (c : Channel) : Int :=
  match (s.chan c).trackingStart with
  | none => 0
  | some t => (s.tenths - t) / 10

/-- R114: the items of a channel record. The tracking time bounds the age of a run (R107), so it fits in 16 bits. -/
def State.chanItems (s : State) (c : Channel) : List Item :=
  let r := s.chan c
  .half r.mode.code :: (r.causes.items
    ++ [.int r.pAxle, .int r.pRoll, .int r.pSlip, .int (s.commandInForce c), .int r.pd, .int r.e, .half r.phase.code,
      .int r.w, .half (Indication.code r.inlet), .half (Indication.code r.outlet), .int (s.trackingAge c), .half r.faultCount])

/-- R114: the body of the modulator section. -/
def State.modulatorBody (s : State) : List Item :=
  s.chanItems .front ++ (s.chanItems .left ++ (s.chanItems .right ++ s.mdu.group.items))

/-- R114: MDU rewrites its section. -/
def State.rewriteModulator (s : State) : State := s.rewrite .modulator s.modulatorBody

/-! ### BACKUP and causes -/

/-- R102, R103, R104: the energised valve is de-energised now; last closed takes it, the pulse end becomes absent. -/
def ChannelRecord.closeValve (r : ChannelRecord) (now : Int) : ChannelRecord :=
  match r.phase with
  | .closed => r
  | .energised v => { r with phase := .closed, lastClosed := some (v, now), pulseEnd := none }

/-- R104: a channel's record as it enters BACKUP. A due opening that waits is dropped, since MDU opens no valve in
BACKUP. -/
def ChannelRecord.toBackup (r : ChannelRecord) (now : Int) : ChannelRecord :=
  { r.closeValve now with mode := .backup, pCmd := 0, e := 0, w := 0, trackingStart := none, opening := none }

/-- R104: a channel's record enters BACKUP. -/
def State.chanToBackup (s : State) (c : Channel) : State := s.setChan c ((s.chan c).toBackup s.tenths)

/-- R104: the channels named enter BACKUP, and MDU hands the entry to SCU in the same event. -/
def State.enterBackup (s : State) (named : List Channel) : State :=
  (named.foldl State.chanToBackup s).backupEntry named

/-- R96: a cause goes into or out of a channel's cause set. -/
def State.setCause (s : State) (c : Channel) (cause : Cause) (b : Bool) : State :=
  s.setChan c { s.chan c with causes := (s.chan c).causes.set cause b }

/-- R110: the FAULT record code of a latched cause (0 for a standing one, which hands no record). -/
def Cause.faultCode : Cause → Nat
  | .inletOpen => 0x0301
  | .inletShort => 0x0302
  | .outletOpen => 0x0303
  | .outletShort => 0x0304
  | .pdFault => 0x0305
  | .tracking => 0x0306
  | .sourceNone => 0
  | .notActive => 0

/-- R110: the causes that set VALVE_FAULT and raise FAULT attention. -/
def Cause.isValveFault : Cause → Bool
  | .inletOpen | .inletShort | .outletOpen | .outletShort | .tracking => true
  | .pdFault | .sourceNone | .notActive => false

/-- R110: the effects of the addition of a latched cause; `before` is the unit's mode before it. -/
def State.faultEffects (s : State) (c : Channel) (cause : Cause) (before : Mode) : State :=
  let t := s.setChan c { s.chan c with faultCount := count16 (s.chan c).faultCount }
  let u := t.hand { kind := .fault, subject := c.index, info := cause.faultCode, a := before.code, b := t.pd c }
  if cause.isValveFault then { u with health := { u.health with valveFault := true } }.raise .fault else u

/-- R104 to R107, R109: MDU adds a latched cause to a channel: the unit enters BACKUP if it was in REGULATE, the
effects of R110 follow, and the section is rewritten. A cause already in the set is not added again (R96, log 21). -/
def State.addCause (s : State) (c : Channel) (cause : Cause) : State :=
  if (s.chan c).causes.get cause then s
  else
    let before := s.unitMode (Channel.unit c)
    let t := s.setCause c cause true
    let u := match before with
      | .regulate => t.enterBackup (Channel.unit c).channels
      | .backup => t
    (u.faultEffects c cause before).rewriteModulator

/-- R104: the channels whose unit is in REGULATE, in channel order: those that a standing cause puts into BACKUP, and
which the entry names (log 40). -/
def State.regulating (s : State) : List Channel := Channel.all.filter (fun c => s.unitMode (Channel.unit c) = .regulate)

/-- R108: a standing cause goes into or out of all three cause sets. -/
def State.setStanding (s : State) (cause : Cause) (b : Bool) : State :=
  ((s.setCause .front cause b).setCause .left cause b).setCause .right cause b

/-- R108: LDU gives MDU the demand-source-NONE cause: it is added to all three cause sets and each unit in REGULATE
enters BACKUP. The entry handed to SCU names the channels of those units alone; R104 also says that standing causes name
all three, and where a unit is in BACKUP already the two differ (log 40). -/
def State.addSourceNone (s : State) : State :=
  ((s.setStanding .sourceNone true).enterBackup s.regulating).rewriteModulator

/-- R108: LDU withdraws the cause. The mode waits for the next valve period. -/
def State.removeSourceNone (s : State) : State := s.setStanding .sourceNone false

/-- R108: XPT hands MDU the entry of the device state to ACTIVE. -/
def State.removeNotActive (s : State) : State := s.setStanding .notActive false

/-! ### Composition and pulses -/

/-- R98: the axle target of the channel's group. -/
def State.groupTarget (s : State) : Channel → Int
  | .front => s.ldu.front.pAxle
  | .left => s.ldu.rear.pAxle
  | .right => s.ldu.rear.pAxle

/-- R98: the rollover request as read: for FRONT only while the lift state is LOWERED. -/
def State.rollRequest (s : State) (c : Channel) : Int :=
  match c with
  | .front => if s.lfc.state = .lowered then s.rou.pRoll.front else 0
  | .left => s.rou.pRoll.left
  | .right => s.rou.pRoll.right

/-- R98: the contributions and Pd read into a channel's record. -/
def State.readContributions (s : State) (c : Channel) : ChannelRecord :=
  { s.chan c with pAxle := s.groupTarget c, pRoll := s.rollRequest c, pSlip := (s.slip c).pSlip, pd := s.pd c }

/-- R99: the composed command pressure of the contributions read. -/
def State.composed (s : State) (r : ChannelRecord) : Int :=
  let bounded := least (least (greatest r.pAxle r.pRoll) r.pSlip) s.pmax
  if s.valid .pres then least bounded (s.value .pres) else bounded

/-- R100: which valve an error asks for. -/
def pulseValve (e : Int) : Valve := if 0 < e then .inlet else .outlet

/-- R100: the width of the pulse due for an error, capped and with the minimum width applied. -/
def ValveGroup.width (g : ValveGroup) (e : Int) : Int :=
  if magnitude e ≤ g.deadZone then 0
  else
    let raw := rounded (magnitude e * (if 0 < e then g.kin else g.kout)) 256
    let w := least raw (g.period * 10 - g.deadBand)
    if w < g.minWidth then 0 else w

/-- R101: the opening time of a valve: now, or the dead band after the other valve of the channel closed when that was
the last valve closed. -/
def openingTime (r : ChannelRecord) (v : Valve) (now deadBand : Int) : Int :=
  match r.lastClosed with
  | none => now
  | some (u, t) => if u = v then now else greatest now (t + deadBand)

/-- R101: the pulse of a valve with a width in a period that ends at `periodEnd`. -/
def ValveGroup.pulse (g : ValveGroup) (r : ChannelRecord) (v : Valve) (w now periodEnd : Int) : Opening :=
  let t := openingTime r v now g.deadBand
  { valve := v, opensAt := t, endsAt := least (t + w) (periodEnd - g.deadBand), dump := false }

/-- R101, R107: the pulse would be given: its width is not 0 and from its opening to its end there is at least the
minimum width. -/
def ValveGroup.gives (g : ValveGroup) (w : Int) (o : Opening) : Bool :=
  decide (w ≠ 0) && decide (g.minWidth ≤ o.endsAt - o.opensAt)

/-- R101: a valve is energised, with its pulse end. -/
def ChannelRecord.energise (r : ChannelRecord) (o : Opening) : ChannelRecord :=
  { r with phase := .energised o.valve, pulseEnd := some o.endsAt, opening := none }

/-- R101, R103: an opening whose time is now opens, another waits for its own event. -/
def ChannelRecord.openOrWait (r : ChannelRecord) (o : Opening) (now : Int) : ChannelRecord :=
  if o.opensAt ≤ now then r.energise o else { r with opening := some o }

/-- R107: the tracking run's start after a period that counts, or absent after one that does not. -/
def ChannelRecord.trackedFrom (r : ChannelRecord) (counts : Bool) (now : Int) : Option Int :=
  if counts then some (r.trackingStart.getD now) else none

/-- R107: a period that counts, at least the tracking time since the start of the run. -/
def ValveGroup.trackingExpired (g : ValveGroup) (r : ChannelRecord) (counts : Bool) (now : Int) : Bool :=
  counts && (match r.trackingStart with | none => false | some t => decide (g.trackingTime * 10 ≤ now - t))

/-- R97: the record of a channel in BACKUP at a valve period. -/
def State.backupChannel (s : State) (c : Channel) : State :=
  s.setChan c { s.readContributions c with pCmd := 0, e := 0, w := 0, trackingStart := none }

/-- R98 to R101, R107: a channel in REGULATE at a valve period that ends at `periodEnd`. A pulse still open at an expiry
cannot occur (R97); a record that has one keeps it and opens none (log 24). -/
def State.regulateChannel (s : State) (c : Channel) (periodEnd : Int) : State :=
  let g := s.mdu.group
  let now := s.tenths
  let r := s.readContributions c
  let cmd := s.composed r
  let e := cmd - r.pd
  let w := g.width e
  let o := g.pulse r (pulseValve e) w now periodEnd
  let given := g.gives w o
  let counts := decide (g.trackingLimit < magnitude e) && given
  let r1 : ChannelRecord := { r with pCmd := cmd, e := e, w := if given then w else 0, opening := none }
  if g.trackingExpired r counts now then (s.setChan c r1).addCause c .tracking
  else
    let r2 : ChannelRecord := { r1 with trackingStart := r.trackedFrom counts now }
    s.setChan c (if given && decide (r.phase = .closed) then r2.openOrWait o now else r2)

/-- R97 step 4: one channel at a valve period, in the mode it then has. -/
def State.driveChannel (s : State) (periodEnd : Int) (c : Channel) : State :=
  match (s.chan c).mode with
  | .regulate => s.regulateChannel c periodEnd
  | .backup => s.backupChannel c

/-! ### Clearing faults and returning to REGULATE -/

/-- R111: every latched cause of a channel is gone. -/
def State.latchedGone (s : State) (c : Channel) : Bool :=
  let k := (s.chan c).causes
  (!(k.inletOpen || k.inletShort) || decide ((s.chan c).inlet = .ok))
    && (!(k.outletOpen || k.outletShort) || decide ((s.chan c).outlet = .ok))
    && (!k.pdFault || s.valid (Channel.pd c))

/-- R111: a channel of a cleared unit loses its latched causes and hands a FAULT record. -/
def State.clearChannel (s : State) (c : Channel) : State :=
  let t := s.setChan c { s.chan c with causes := (s.chan c).causes.withoutLatched }
  t.hand { kind := .fault, subject := c.index, info := 0x0310, a := (t.chan c).faultCount, b := t.pd c }

/-- R111: a unit in BACKUP that holds a latched cause is cleared when every latched cause of each of its channels is
gone. -/
def State.clearUnit (s : State) (u : DriveUnit) : State :=
  if s.unitMode u = .backup && u.channels.any (fun c => (s.chan c).causes.hasLatched)
      && u.channels.all (fun c => s.latchedGone c)
  then u.channels.foldl State.clearChannel s
  else s

/-- R111: a pending CLEAR_FAULTS is carried out, the FRONT unit before the rear unit, and reports ACCEPTED. -/
def State.clearFaults (s : State) : State :=
  if s.isPending .clearFaults then ((s.clearUnit .front).clearUnit .rear).takeOutcome .clearFaults .accepted else s

/-- R108: a unit whose cause sets are all empty returns to REGULATE; one in REGULATE already is left as it is. -/
def State.restoreUnit (s : State) (u : DriveUnit) : State :=
  if s.unitMode u = .backup && u.channels.all (fun c => (s.chan c).causes.isEmpty)
  then u.channels.foldl (fun t c => t.setChan c { t.chan c with mode := .regulate, trackingStart := none }) s
  else s

/-! ### VALVE adoption -/

/-- R113: the outcome of the VALVE table as it stands, and its clamped fields. -/
def State.valveVerdict (s : State) : Outcome × List Nat :=
  validate ValveGroup.checks ValveGroup.refusals (s.settingWords .valve 8)

/-- R113: a pending VALVE group is adopted at the valve period expiry. -/
def State.adoptValve (s : State) : State :=
  if s.isPending .valve then
    let v := s.valveVerdict
    let t := if v.1.isAccepted then { s with mdu := { s.mdu with group := ValveGroup.ofFields v.2 } } else s
    t.takeOutcome .valve v.1
  else s

/-! ### The events of MDU -/

/-- R97: the period now beginning has the length in force; the next expiry falls one period later. -/
def State.beginValvePeriod (s : State) : State :=
  { s with mdu := { s.mdu with
    periodEnd := some (s.tenths + s.mdu.group.period * 10)
    due := s.after s.mdu.group.period } }

/-- R97: the five steps of a valve period expiry. -/
def State.valvePeriod (s : State) : State :=
  let t := s.adoptValve.beginValvePeriod.clearFaults
  let u := (t.restoreUnit .front).restoreUnit .rear
  (Channel.all.foldl (fun x c => x.driveChannel (u.mdu.periodEnd.getD 0) c) u).rewriteModulator

/-- R97: the valve period expires. -/
def State.valvePeriodExpired (s : State) : State :=
  if s.isRunning && s.isDue s.mdu.due then s.valvePeriod else s

/-- R101, R103: a waiting opening of a channel whose time has come, of a pulse or of a dump, on a channel in REGULATE
with both valves off. -/
def State.dueOpening (s : State) (c : Channel) (dump : Bool) : Option Opening :=
  match (s.chan c).opening with
  | none => none
  | some o =>
    if o.dump = dump ∧ o.opensAt ≤ s.tenths ∧ (s.chan c).phase = .closed ∧ (s.chan c).mode = .regulate then some o
    else none

/-- R101, R103: the waiting opening opens. -/
def State.openWaiting (s : State) (c : Channel) (dump : Bool) : State :=
  match s.dueOpening c dump with
  | none => s
  | some o => s.setChan c ((s.chan c).energise o)

/-- R102: the pulse end of a channel has come. -/
def State.pulseEndDue (s : State) (c : Channel) : Bool :=
  match (s.chan c).phase, (s.chan c).pulseEnd with
  | .energised _, some t => decide (t ≤ s.tenths)
  | _, _ => false

/-- R102: the pulse of a channel ends. -/
def State.pulseEnded (s : State) (c : Channel) : State :=
  if s.pulseEndDue c then s.setChan c ((s.chan c).closeValve s.tenths) else s

/-- R103: the end of the current period less the dead band. -/
def State.dumpEnd (s : State) : Int := s.mdu.periodEnd.getD 0 - s.mdu.group.deadBand

/-- R103: the channel record after a DUMP entry: an open inlet is cut; an outlet already open is extended; otherwise the
outlet opens, now or a dead band after the inlet closed, when at least the minimum width is left. -/
def State.dumped (s : State) (c : Channel) : ChannelRecord :=
  let now := s.tenths
  let r := s.chan c
  match r.phase with
  | .energised .outlet => { r with pulseEnd := some (greatest (r.pulseEnd.getD s.dumpEnd) s.dumpEnd) }
  | .energised .inlet | .closed =>
    let cut := r.closeValve now
    let t := openingTime cut .outlet now s.mdu.group.deadBand
    if s.mdu.group.minWidth ≤ s.dumpEnd - t then
      cut.openOrWait { valve := .outlet, opensAt := t, endsAt := s.dumpEnd, dump := true } now
    else { cut with opening := none }

/-- R103: SCU hands MDU a DUMP entry. In BACKUP it changes nothing. -/
def State.dumpEntry (s : State) (c : Channel) : State :=
  match (s.chan c).mode with
  | .backup => s
  | .regulate => (s.setChan c (s.dumped c)).rewriteModulator

/-- R105: the cause that a valve's indication adds, none for OK. -/
def driverCause : Valve → Indication → Option Cause
  | _, .ok => none
  | .inlet, .openLoad => some .inletOpen
  | .inlet, .short => some .inletShort
  | .outlet, .openLoad => some .outletOpen
  | .outlet, .short => some .outletShort

/-- The indication of a valve in a channel record. -/
def ChannelRecord.indication (r : ChannelRecord) : Valve → Indication
  | .inlet => r.inlet
  | .outlet => r.outlet

/-- A channel record with the indication of a valve stored. -/
def ChannelRecord.setIndication (r : ChannelRecord) (v : Valve) (i : Indication) : ChannelRecord :=
  match v with
  | .inlet => { r with inlet := i }
  | .outlet => { r with outlet := i }

/-- A pair of monitors with what one of them shows replaced. -/
def Drivers.set (d : Drivers) (v : Valve) (i : Indication) : Drivers :=
  match v with
  | .inlet => { d with inlet := i }
  | .outlet => { d with outlet := i }

/-- R105: a monitor's report is stored in the record (and stands at the pin). -/
def State.storeIndication (s : State) (c : Channel) (v : Valve) (i : Indication) : State :=
  { s with pins := { s.pins with monitors := s.pins.monitors.set c ((s.pins.monitors.get c).set v i) } }.setChan c
    ((s.chan c).setIndication v i)

/-- R105: a valve driver monitor reports its indication. A passage to OPEN_LOAD or SHORT in UNCONFIGURED or ACTIVE adds
the matching cause; in START and SAFE, and for a passage to OK, the indication alone is updated. -/
def State.driverReported (s : State) (c : Channel) (v : Valve) (i : Indication) : State :=
  let t := s.storeIndication c v i
  match driverCause v i with
  | none => t
  | some cause =>
    if s.isRunning && decide ((s.chan c).indication v ≠ i) then t.addCause c cause else t

/-- R105: at the entry to UNCONFIGURED an indication that stands at OPEN_LOAD or SHORT adds its cause. -/
def State.addStandingIndication (s : State) (c : Channel) (v : Valve) : State :=
  match driverCause v ((s.chan c).indication v) with
  | none => s
  | some cause => s.addCause c cause

/-- R105: the channels in the order FRONT, LEFT, RIGHT and the inlet before the outlet. Each cause so added rewrites the
section, before the first valve period expiry (log 39). -/
def State.addStandingIndications (s : State) : State :=
  Channel.all.foldl (fun t c => (t.addStandingIndication c .inlet).addStandingIndication c .outlet) s

end Sys2Proof.Machine
end

