-- ==== Sys2Proof/Machine/Demand.lean ====
section
/-! DEFINITION. Machine/Demand.lean: the load unit (R18 to R41): the demand record, source and mismatch, the axle records,
the VEHICLE and LOAD takes, and the LDU period. -/

namespace Sys2Proof.Machine

/-- The state with the demand record replaced. -/
def State.setDemand (s : State) (d : Demand) : State := { s with ldu := { s.ldu with demand := d } }

/-! ### Reading the slot and freshness -/

/-- Table 10.3: where the demand slot lies. -/
def slotBase : Nat := 0x0800

/-- Table 2.2: the lift request of a code; AUTO for any other code. -/
def LiftRequest.ofCode : Nat → LiftRequest
  | 1 => .lower
  | 2 => .raise
  | _ => .auto

/-- R20: the demand slot read as it stands and interpreted by Table 2.2. -/
def State.readSlot (s : State) : State :=
  let de := Memory.half s.mem (slotBase + 2)
  s.setDemand { s.ldu.demand with
    link := if Memory.byte s.mem slotBase = 1 then .good else .down
    liftRead := LiftRequest.ofCode (Memory.byte s.mem (slotBase + 1)).toNat
    de := if 1000 < de then 1000 else (de : Int) }

/-- R20: the stamp as read. -/
def State.slotStamp (s : State) : Nat := (Memory.byte s.mem (slotBase + 4)).toNat

/-- R21: the age after so many milliseconds more, saturating at 65,535. -/
def agedBy (age : Nat) (more : Int) : Nat := if 65535 ≤ age + more.toNat then 65535 else age + more.toNat

/-- R21: the stamp read compared with the last stamp seen. -/
def State.compareStamp (s : State) : State :=
  let d := s.ldu.demand
  match d.lastStamp with
  | none => s.setDemand { d with lastStamp := some s.slotStamp, age := 0 }
  | some last =>
    if last = s.slotStamp then s.setDemand { d with age := agedBy d.age (s.since s.ldu.lastPeriod) }
    else s.setDemand { d with lastStamp := some s.slotStamp, age := 0, changeSeen := true }

/-- R22: freshness and stale cause, the first that applies. -/
def Demand.judgedFreshness (d : Demand) (timeout : Int) : Freshness :=
  if d.changeSeen && decide ((d.age : Int) ≤ timeout) && decide (d.link = .good) then .fresh
  else if d.link = .down then .stale .linkDown
  else if d.changeSeen then .stale .timeout
  else .stale .noChange

/-- R22: the freshness of De is set. -/
def State.judgeFreshness (s : State) : State :=
  s.setDemand { s.ldu.demand with freshness := s.ldu.demand.judgedFreshness s.ldu.load.demandTimeout }

/-- R22: De is FRESH. -/
def Demand.isFresh (d : Demand) : Bool :=
  match d.freshness with
  | .fresh => true
  | .stale _ => false

/-- R22: the info of a DEMAND_STALE record, 1 TIMEOUT and 2 LINK_DOWN (3 NO_CHANGE, which never is the cause there). -/
def StaleCause.code : StaleCause → Nat
  | .timeout => 1
  | .linkDown => 2
  | .noChange => 3

/-- Table 2.3: the source codes. -/
def Source.code : Source → Nat
  | .electric => 0
  | .pneumatic => 1
  | .none => 2

/-- R22: a change of freshness between periods is reported after the source has been selected. -/
def State.reportFreshness (s : State) (wasFresh : Bool) : State :=
  let d := s.ldu.demand
  match d.freshness with
  | .fresh =>
    if wasFresh then s
    else s.hand { kind := .demandFresh, subject := 0, info := 0, a := d.source.code, b := d.de }
  | .stale cause =>
    if wasFresh then s.hand { kind := .demandStale, subject := 0, info := cause.code, a := d.source.code, b := d.de }
    else s

/-! ### Source, lift request, mismatch, D -/

/-- R23: the source of Table 2.3. -/
def State.selectedSource (s : State) : Source :=
  if s.ldu.demand.isFresh then .electric else if s.valid .pc then .pneumatic else .none

/-- R23: the BACKUP cause at MDU follows a change into or out of NONE. -/
def State.sourceChanged (s : State) (old : Source) : State :=
  if old ≠ .none ∧ s.ldu.demand.source = .none then s.addSourceNone
  else if old = .none ∧ s.ldu.demand.source ≠ .none then s.removeSourceNone
  else s

/-- R23: LDU selects the source, hands a change to MDU and holds the DEMAND condition. -/
def State.selectSource (s : State) : State :=
  let source := s.selectedSource
  ((s.setDemand { s.ldu.demand with source := source }).sourceChanged s.ldu.demand.source).holdCondition .demand
    (decide (source ≠ .electric))

/-- R24: the lift request handed to LFC. -/
def Demand.requestHanded (d : Demand) : LiftRequest :=
  match d.freshness with
  | .fresh => d.liftRead
  | .stale .linkDown => d.liftRead
  | .stale .timeout => .auto
  | .stale .noChange => .auto

/-- R24: the lift request handed is set. -/
def State.setLiftHanded (s : State) : State :=
  s.setDemand { s.ldu.demand with liftHanded := s.ldu.demand.requestHanded }

/-- R25: the period finds a disagreement between De and Pc. -/
def State.disagrees (s : State) : Bool :=
  s.ldu.demand.isFresh && s.valid .pc
    && decide (s.ldu.load.mismatchLimit < magnitude (s.ldu.demand.de - s.value .pc))

/-- R25: a sustained mismatch is declared. -/
def State.declareMismatch (s : State) : State :=
  ({ s.setDemand { s.ldu.demand with mismatch := true } with health := { s.health with demandMismatch := true } }).hand
    { kind := .mismatch, subject := 0, info := 1, a := s.ldu.demand.de, b := s.value .pc }

/-- R26: a period without disagreement ends the run and clears a declared mismatch. -/
def State.endMismatch (s : State) : State :=
  let t := s.setDemand { s.ldu.demand with mismatchStart := none, mismatch := false }
  if s.ldu.demand.mismatch then
    t.hand { kind := .mismatch, subject := 0, info := 0, a := s.ldu.demand.de
             b := if s.valid .pc then s.value .pc else 0 }
  else t

/-- R25, R26: LDU evaluates the mismatch. -/
def State.judgeMismatch (s : State) : State :=
  let d := s.ldu.demand
  if s.disagrees then
    match d.mismatchStart with
    | none => s.setDemand { d with mismatchStart := some s.ms }
    | some t => if !d.mismatch && decide (500 ≤ s.since t) then s.declareMismatch else s
  else s.endMismatch

/-- R27: D before the release threshold. -/
def State.rawDemand (s : State) : Int :=
  let d := s.ldu.demand
  match d.source with
  | .electric => if d.mismatch then greatest d.de (s.value .pc) else d.de
  | .pneumatic => s.value .pc
  | .none => 0

/-- R27: the effective demand. -/
def State.effectiveDemand (s : State) : Int :=
  let raw := clamp 0 1000 s.rawDemand
  if raw < s.ldu.load.releaseThreshold then 0 else raw

/-- R27: LDU computes D. -/
def State.computeDemand (s : State) : State := s.setDemand { s.ldu.demand with d := s.effectiveDemand }

/-! ### Takes of VEHICLE and LOAD -/

/-- R37: this period is the safe point of VEHICLE and LOAD. -/
def State.lduSafePoint (s : State) : Bool :=
  decide (s.ldu.demand.d = 0) && (decide (s.rou.stage = .quiet) || decide (s.rou.stage = .watch))

/-- R38: the outcome of the VEHICLE table as it stands, and its clamped fields. -/
def State.vehicleVerdict (s : State) : Outcome × List Nat :=
  validate VehicleGroup.checks VehicleGroup.refusals (s.settingWords .vehicle 22)

/-- R38: the outcome of the LOAD table as it stands, and its clamped fields. -/
def State.loadVerdict (s : State) : Outcome × List Nat :=
  validate LoadGroup.checks LoadGroup.refusals (s.settingWords .load 14)

/-- R165: an accepted VEHICLE group in UNCONFIGURED makes the device state ACTIVE: MDU removes NOT_ACTIVE, XPT hands a
DEVICE_STATE record and rewrites its section. -/
def State.enterActive (s : State) : State :=
  if s.xpt.device = .unconfigured then
    ({ s with xpt := { s.xpt with device := .active } }.removeNotActive).reportDevice .unconfigured
  else s

/-- R37, R38, R53, R165: a pending VEHICLE group is adopted at the safe point. -/
def State.adoptVehicle (s : State) : State :=
  if s.isPending .vehicle then
    let v := s.vehicleVerdict
    if v.1.isAccepted then
      let t := { s with ldu := { s.ldu with vehicle := some (VehicleGroup.ofFields v.2) } }.fixAxle
      (t.takeOutcome .vehicle v.1).enterActive
    else s.takeOutcome .vehicle v.1
  else s

/-- R37, R38: a pending LOAD group is adopted at the safe point. -/
def State.adoptLoad (s : State) : State :=
  if s.isPending .load then
    let v := s.loadVerdict
    let t := if v.1.isAccepted then { s with ldu := { s.ldu with load := LoadGroup.ofFields v.2 } } else s
    t.takeOutcome .load v.1
  else s

/-- R37: both groups at a safe point, VEHICLE first. -/
def State.adoptLduGroups (s : State) : State := if s.lduSafePoint then s.adoptVehicle.adoptLoad else s

/-! ### The axle records -/

/-- R29: bellows pressure and source of the FRONT group. -/
def State.frontBellows (s : State) (v : VehicleGroup) : Int × LoadSource :=
  if v.bellowsUsed && s.valid .bf then (s.value .bf, .sensed) else (0, .assumedLaden)

/-- R29: bellows pressure and source of the REAR group. -/
def State.rearBellows (s : State) : Int × LoadSource :=
  if s.valid .bl && s.valid .br then (truncated (s.value .bl + s.value .br) 2, .sensed)
  else if s.valid .bl then (s.value .bl, .sensed)
  else if s.valid .br then (s.value .br, .sensed)
  else (0, .assumedLaden)

/-- R30: the load from the load curve, or the laden load under ASSUMED_LADEN. -/
def Curve.load (c : Curve) (b : Int) : LoadSource → Int
  | .sensed => clamp 0 2000 (c.l0 + rounded ((b - c.b0) * c.g) 256)
  | .assumedLaden => c.lladen

/-- R31: the load ratio. -/
def Curve.ratio (c : Curve) (l : Int) : Int :=
  clamp 0 4096 (truncated ((l - c.lempty) * 4096) (c.lladen - c.lempty))

/-- R32: the factor. -/
def Curve.factor (c : Curve) (r : Int) : Int := c.e + rounded ((4096 - c.e) * r) 4096

/-- R33: the target pressure of a group. -/
def LoadGroup.target (g : LoadGroup) (d f : Int) : Int :=
  if d ≤ g.knee then d else least (g.knee + rounded ((d - g.knee) * f) 4096) g.pmax

/-- R29 to R33: the axle record of a group from its bellows. -/
def Curve.axle (c : Curve) (g : LoadGroup) (d : Int) (bellows : Int × LoadSource) : Axle :=
  let l := c.load bellows.1 bellows.2
  let r := c.ratio l
  let f := c.factor r
  { b := bellows.1, l := l, r := r, f := f, pAxle := g.target d f, source := bellows.2, valid := true }

/-- R34: the FRONT record with its target 0 while the lift state is RAISED or RAISING. -/
def Axle.gated (a : Axle) (up : Bool) : Axle := if up then { a with pAxle := 0 } else a

/-- R28: LDU computes both axle records while a VEHICLE group is in force. -/
def State.computeAxles (s : State) : State :=
  match s.ldu.vehicle with
  | none => s
  | some v =>
    { s with ldu := { s.ldu with
      front := (v.front.axle s.ldu.load s.ldu.demand.d (s.frontBellows v)).gated s.lfc.state.isUp
      rear := v.rear.axle s.ldu.load s.ldu.demand.d s.rearBellows } }

/-! ### The section and the period -/

/-- R40: the items of an axle record. -/
def Axle.items (a : Axle) : List Item :=
  [.int a.b, .int a.l, .int a.r, .int a.f, .int a.pAxle,
    .half (match a.source with | .sensed => 0 | .assumedLaden => 1), .flag a.valid]

/-- R40: the items of the demand record (codings of link, freshness and stale cause: log 15). -/
def Demand.items (d : Demand) : List Item :=
  [.half (d.lastStamp.getD 0xFFFF), .half d.age, .half (match d.link with | .good => 1 | .down => 0), .int d.de,
    .half d.liftRead.code, .half d.liftHanded.code,
    .half (match d.freshness with | .fresh => 0 | .stale _ => 1),
    .half (match d.freshness with | .fresh => 0 | .stale c => c.code),
    .half d.source.code, .flag d.mismatch, .int d.d]

/-- R40: the body of the demand and load section. -/
def State.demandBody (s : State) : List Item :=
  s.ldu.demand.items ++ (s.ldu.front.items ++ (s.ldu.rear.items
    ++ (.flag s.ldu.vehicle.isSome :: (vehicleItems s.ldu.vehicle ++ s.ldu.load.items))))

/-- R40: LDU rewrites its section. -/
def State.rewriteDemand (s : State) : State := s.rewrite .demand s.demandBody

/-- R19: the next period expiry falls 10 ms later, and this expiry is the previous one of the next. -/
def State.beginLduPeriod (s : State) : State :=
  { s with ldu := { s.ldu with lastPeriod := s.ms, due := s.after 10 } }

/-- R19 steps 1 to 3: slot, freshness, source (with the report of R22 and the request of R24). -/
def State.lduDemandSteps (s : State) : State :=
  (s.readSlot.compareStamp.judgeFreshness.selectSource.reportFreshness s.ldu.demand.isFresh).setLiftHanded

/-- R19: the nine steps of an LDU period. -/
def State.lduPeriod (s : State) : State :=
  s.lduDemandSteps.beginLduPeriod.judgeMismatch.computeDemand.adoptLduGroups.computeAxles.liftPeriod.rewriteDemand

/-- R19: the LDU period expires. -/
def State.lduPeriodExpired (s : State) : State :=
  if s.isRunning && s.isDue s.ldu.due then s.lduPeriod else s

end Sys2Proof.Machine
end

