-- ==== Sys2Proof/Machine/Tyres.lean ====
section
/-! DEFINITION. Machine/Tyres.lean: the tyre unit (R136 to R149): receiver, telegrams, slots, silence, exports, the TYRE
take and the section. -/

namespace Sys2Proof.Machine

/-! ### Slots, codes and the section -/

/-- The state with the tyre unit replaced. -/
def State.setTyu (s : State) (t : Tyu) : State := { s with tyu := t }

/-- Slot k of the tyre table. -/
def State.slot (s : State) (k : Nat) : Slot := s.tyu.slots.getD k .empty

/-- The state with slot k replaced. -/
def State.setSlot (s : State) (k : Nat) (x : Slot) : State := s.setTyu { s.tyu with slots := s.tyu.slots.set k x }

/-- R139: the state codes. -/
def TyreState.code : TyreState → Nat
  | .unknown => 0
  | .normal => 1
  | .low => 2
  | .critical => 3
  | .leaking => 4
  | .silent => 5

/-- Table 8.4: the position codes. -/
def Position.code : Position → Nat
  | .single => 0
  | .inner => 1
  | .outer => 2

/-- Table 8.4: the position of a code. -/
def Position.ofCode : Nat → Position
  | 1 => .inner
  | 2 => .outer
  | _ => .single

/-- Table 8.4: the wheel end of a code. -/
def wheelOfCode : Nat → Wheel
  | 0 => .a1l
  | 1 => .a1r
  | 2 => .a2l
  | 3 => .a2r
  | 4 => .a3l
  | _ => .a3r

/-- R148: a measured value, 0x7FFF when absent. -/
def measuredItem : Option Int → Item
  | none => .half 0x7FFF
  | some x => .int x

/-- R148: a leak rate, 0xFFFFFFFF when absent. -/
def rateItem : Option Int → Item
  | none => .word 0xFFFFFFFF
  | some x => .int32 x

/-- R148: the age of an arrival, 0xFFFFFFFF when absent. -/
def State.arrivalAge (s : State) : Option Time → Item
  | none => .word 0xFFFFFFFF
  | some t => .int32 (s.since t)

/-- R148: the items of a slot. -/
def State.slotItems (s : State) (x : Slot) : List Item :=
  [.flag x.occupied, .word x.id, .half x.wheel.index, .half x.position.code, .int x.pNom, .half x.state.code,
    measuredItem x.lastP, measuredItem x.lastT, measuredItem x.p20, rateItem x.leakRate, .half x.leakCount,
    .half x.silentTimer, .flag x.batteryLow, .flag x.rotating, .half x.telegrams, s.arrivalAge x.lastArrival]

/-- R148: the items of an export. -/
def TyreExport.items (e : TyreExport) : List Item := [.int e.deficit, .int e.factor, .flag e.flat]

/-- R148: the body of the tyre section. -/
def State.tyreBody (s : State) : List Item :=
  let t := s.tyu
  [.half t.gapErrors, .half t.parityErrors, .half t.frameErrors, .half t.checkErrors, .half t.strangers,
    .half t.telegrams]
    ++ (t.slots.flatMap s.slotItems ++ (t.exports.toList.flatMap TyreExport.items
    ++ (.int t.penalty :: t.group.items)))

/-- R148: TYU rewrites its section. -/
def State.rewriteTyres (s : State) : State := s.rewrite .tyres s.tyreBody

/-! ### Exports -/

/-- R144: the deficit of a tyre. -/
def Slot.deficit (x : Slot) : Int :=
  match x.state with
  | .unknown | .silent => 0
  | .normal | .low | .critical | .leaking =>
    let p := x.p20.getD 0
    clamp 0 1000 (truncated ((if x.pNom < p then 0 else x.pNom - p) * 1000) x.pNom)

/-- R144: the smallest deficit of a list, 0 of an empty one. -/
def smallestDeficit : List Int → Int
  | [] => 0
  | [d] => d
  | d :: e :: ds => if d < smallestDeficit (e :: ds) then d else smallestDeficit (e :: ds)

/-- R144: the occupied slots on a wheel end. -/
def Tyu.tyresOn (t : Tyu) (w : Wheel) : List Slot := t.slots.filter (fun x => x.occupied && decide (x.wheel = w))

/-- R144: the radius factor of a deficit. -/
def radiusFactor (deficit kr : Int) : Int := 4096 - truncated (deficit * kr) 1000

/-- R144: the export of a wheel end. -/
def Tyu.exportOf (t : Tyu) (w : Wheel) : TyreExport :=
  let tyres := t.tyresOn w
  let d := smallestDeficit (tyres.map Slot.deficit)
  { deficit := d, factor := radiusFactor d t.group.kr
    flat := !tyres.isEmpty && tyres.all (fun x => decide (x.state = .critical)) }

/-- R145: what a slot adds to the tyre penalty. -/
def TyreGroup.penaltyOf (g : TyreGroup) (x : Slot) : Int :=
  if x.occupied ∧ 2 ≤ x.wheel.index then
    match x.state with
    | .low | .leaking => g.lowPenalty
    | .critical => g.criticalPenalty
    | .unknown | .normal | .silent => 0
  else 0

/-- R145: the tyre penalty. -/
def Tyu.penaltyNow (t : Tyu) : Int :=
  let sum := t.slots.foldr (fun x n => t.group.penaltyOf x + n) 0
  if t.group.penaltyLimit < sum then t.group.penaltyLimit else sum

/-- R144, R145: TYU recomputes its whole export record. -/
def State.recomputeExports (s : State) : State :=
  s.setTyu { s.tyu with exports := PerWheel.tabulate s.tyu.exportOf, penalty := s.tyu.penaltyNow }

/-! ### The TYRE take -/

/-- R147: a slot after adoption of a roster entry. -/
def Slot.adopted (old : Slot) (e : RosterEntry) : Slot :=
  if old.occupied ∧ old.id = e.id ∧ old.wheel = wheelOfCode e.wheel ∧ old.position = Position.ofCode e.position then
    { old with pNom := e.pNom }
  else { Slot.empty with
    occupied := true, id := e.id, wheel := wheelOfCode e.wheel, position := Position.ofCode e.position, pNom := e.pNom }

/-- R147: the table after adoption of the clamped fields of a group with so many entries. -/
def adoptedSlots (old : List Slot) (ws : List Nat) (entries : Nat) : List Slot :=
  (List.range 12).map (fun k =>
    if k < entries then (old.getD k .empty).adopted (RosterEntry.ofFields ws k) else .empty)

/-- R146: the outcome of the TYRE table as it stands, and its clamped fields. -/
def State.tyreVerdict (s : State) : Outcome × List Nat :=
  let ws := s.settingWords .tyre tyreWords
  validate (TyreGroup.checks (TyreGroup.entries ws)) (TyreGroup.refusals (TyreGroup.entries ws)) ws

/-- R147: an accepted TYRE group. -/
def State.adoptTyreGroup (s : State) (ws : List Nat) : State :=
  let g := TyreGroup.ofFields ws
  (s.setTyu { s.tyu with group := g, slots := adoptedSlots s.tyu.slots ws g.entryCount }).recomputeExports

/-- R147: the adoption of the pending TYRE group, or its refusal; the section follows an adoption (log 26). -/
def State.adoptTyre (s : State) : State :=
  let v := s.tyreVerdict
  if v.1.isAccepted then ((s.adoptTyreGroup v.2).takeOutcome .tyre v.1).rewriteTyres else s.takeOutcome .tyre v.1

/-- R147: a pending TYRE group is adopted when no telegram is open, in UNCONFIGURED or ACTIVE. -/
def State.offerTyre (s : State) : State :=
  if s.isRunning && s.isPending .tyre && !s.tyu.isOpen then s.adoptTyre else s

/-! ### Discards -/

/-- R137, R138: the errors that discard a telegram. -/
inductive TelegramError where
  | gap | parity | frame | check
  deriving DecidableEq, Repr

/-- R137: the receiver record with the counter of an error incremented. -/
def Tyu.counted (t : Tyu) : TelegramError → Tyu
  | .gap => { t with gapErrors := count16 t.gapErrors }
  | .parity => { t with parityErrors := count16 t.parityErrors }
  | .frame => { t with frameErrors := count16 t.frameErrors }
  | .check => { t with checkErrors := count16 t.checkErrors }

/-- R137, R138: the receiver IDLE with its buffer empty and the gap timer stopped. -/
def Tyu.idle (t : Tyu) : Tyu := { t with isOpen := false, buffer := [], gapTimer := none }

/-- R137: the telegram ends: the section is rewritten (R148), and a pending TYRE group is adopted (R147). -/
def State.telegramEnded (s : State) : State := s.rewriteTyres.offerTyre

/-- R137: an open telegram is discarded with an error. -/
def State.discardTelegram (s : State) (e : TelegramError) : State :=
  let t := s.setTyu (s.tyu.idle.counted e)
  { t with health := { t.health with telegramErr := true } }.telegramEnded

/-! ### Telegrams -/

/-- Character k (from 0) of a telegram as a number. -/
def character (buffer : List Byte) (k : Nat) : Nat := (buffer.getD k 0).toNat

/-- R138 step 1: the check character that characters 2 to 8 ask for. -/
def checkOf (buffer : List Byte) : Nat :=
  255 - ((List.range 7).map (fun k => character buffer (k + 1))).foldr (· + ·) 0 % 256

/-- Table 8.1: the identity, most significant byte first. -/
def identityOf (buffer : List Byte) : Nat :=
  ((character buffer 1 * 256 + character buffer 2) * 256 + character buffer 3) * 256 + character buffer 4

/-- R138 step 2: the occupied slot that holds a valid identity. -/
def Tyu.slotOf (t : Tyu) (id : Nat) : Option Nat :=
  if id = 0 ∨ id = 0xFFFFFFFF then none
  else (List.range t.slots.length).find? (fun k => (t.slots.getD k .empty).occupied && (t.slots.getD k .empty).id == id)

/-- R140: the pressure at 20 °C. -/
def compensated (p temperature : Int) : Int := clamp 0 1530 (truncated ((p + 101) * 293) (temperature + 273) - 101)

/-- R140: a slot with the measured fields of a telegram. -/
def Slot.measured (x : Slot) (buffer : List Byte) (now : Time) : Slot :=
  let p : Int := character buffer 5 * 6
  let temperature : Int := (character buffer 6 : Int) - 50
  { x with
    lastP := some p, lastT := some temperature, p20 := some (compensated p temperature)
    batteryLow := (buffer.getD 7 0).getLsbD 0, rotating := (buffer.getD 7 0).getLsbD 1
    telegrams := count16 x.telegrams, lastArrival := some now, silentTimer := 0 }

/-- R141: the leak rate between a reference and a later pressure. -/
def leakRateOf (reference p20 since : Int) : Int :=
  let rate := truncated ((reference - p20) * 60000) since
  if rate < 0 then 0 else rate

/-- R141: a slot with its leak reference and leak rate updated. -/
def Slot.withLeakRate (x : Slot) (now : Time) : Slot :=
  let p := x.p20.getD 0
  match x.leakRef with
  | none => { x with leakRef := some (p, now) }
  | some (reference, start) =>
    if elapsed now start < 20000 then x
    else { x with leakRate := some (leakRateOf reference p (elapsed now start)), leakRef := some (p, now) }

/-- R141: a slot with its leak count updated. -/
def Slot.withLeakCount (x : Slot) (threshold : Int) : Slot :=
  { x with leakCount :=
      match x.leakRate with
      | none => 0
      | some r => if threshold ≤ r then count8 x.leakCount else 0 }

/-- R142: the pressure in percent of the nominal pressure. -/
def Slot.percent (x : Slot) : Int := truncated (x.p20.getD 0 * 100) x.pNom

/-- R142: the judgement of a slot at a telegram. -/
def Slot.judgement (x : Slot) (g : TyreGroup) (fastLeak : Bool) : TyreState :=
  if x.percent < g.criticalPct then .critical
  else if fastLeak ∨ 2 ≤ x.leakCount then .leaking
  else if x.percent < g.lowPct then .low
  else .normal

/-- R142: the states a change into which is reported. -/
def TyreState.isReported : TyreState → Bool
  | .low | .critical | .leaking | .silent => true
  | .unknown | .normal => false

/-- R142: slot k changes from a state to that of `x`: TYRE attention and the TYRE_STATE record where due. -/
def State.reportTyre (s : State) (k : Nat) (old : TyreState) (x : Slot) : State :=
  if old ≠ x.state ∧ x.state.isReported then
    (s.raise .tyre).hand
      { kind := .tyreState, subject := k, info := old.code * 256 + x.state.code, a := x.p20.getD 0
        b := x.leakRate.getD 0 }
  else s

/-- R140 to R142: a slot after a telegram. -/
def Slot.delivered (x : Slot) (g : TyreGroup) (buffer : List Byte) (now : Time) : Slot :=
  let y := ((x.measured buffer now).withLeakRate now).withLeakCount g.leakThreshold
  { y with state := y.judgement g ((buffer.getD 7 0).getLsbD 2) }

/-- R140 to R142: a telegram delivered to slot k. -/
def State.deliver (s : State) (k : Nat) (buffer : List Byte) : State :=
  let x := (s.slot k).delivered s.tyu.group buffer s.ms
  ((s.setSlot k x).reportTyre k (s.slot k).state x).recomputeExports

/-- R138 steps 2 and 3: a telegram whose check is good. -/
def State.acceptTelegram (s : State) (buffer : List Byte) : State :=
  let t := s.setTyu s.tyu.idle
  match t.tyu.slotOf (identityOf buffer) with
  | none => (t.setTyu { t.tyu with strangers := count16 t.tyu.strangers }).telegramEnded
  | some k => ((t.setTyu { t.tyu with telegrams := count16 t.tyu.telegrams }).deliver k buffer).telegramEnded

/-- R138: a complete telegram is judged. -/
def State.telegramComplete (s : State) (buffer : List Byte) : State :=
  if checkOf buffer = character buffer 8 then s.acceptTelegram buffer else s.discardTelegram .check

/-! ### Characters -/

/-- Table 8.1: SYNC. -/
def sync : Byte := 0x7E

/-- R137: a character with good parity and stop bit enters the open telegram. -/
def State.placeCharacter (s : State) (data : Byte) : State :=
  let buffer := s.tyu.buffer ++ [data]
  if buffer.length < 9 then s.setTyu { s.tyu with buffer := buffer, gapTimer := s.after 2 }
  else s.telegramComplete buffer

/-- R137: a character is judged in OPEN. -/
def State.characterInOpen (s : State) (data : Byte) (parityGood stopGood : Bool) : State :=
  if !stopGood then s.discardTelegram .frame
  else if !parityGood then s.discardTelegram .parity
  else s.placeCharacter data

/-- R136: a character is judged in IDLE, where a good SYNC alone opens a telegram. -/
def State.characterInIdle (s : State) (data : Byte) (parityGood stopGood : Bool) : State :=
  if data = sync ∧ parityGood ∧ stopGood then
    s.setTyu { s.tyu with isOpen := true, buffer := [data], gapTimer := s.after 2 }
  else s

/-- R136: a character arrives; it is ignored in START and SAFE and while CD is deasserted. -/
def State.characterArrived (s : State) (data : Byte) (parityGood stopGood : Bool) : State :=
  if s.isRunning && s.pins.cd then
    if s.tyu.isOpen then s.characterInOpen data parityGood stopGood else s.characterInIdle data parityGood stopGood
  else s

/-- R137: the gap timer expires in OPEN. -/
def State.gapTimerExpired (s : State) : State :=
  if s.tyu.isOpen && s.isDue s.tyu.gapTimer then s.discardTelegram .gap else s

/-- R137: CD is deasserted; an open telegram is discarded. -/
def State.carrierLost (s : State) : State :=
  let t := { s with pins := { s.pins with cd := false } }
  if t.tyu.isOpen then t.discardTelegram .gap else t

/-- R136: CD is asserted, and characters are taken again. -/
def State.carrierFound (s : State) : State := { s with pins := { s.pins with cd := true } }

/-! ### The silence scan -/

/-- R143: a 16-bit count of seconds, one up. -/
def Slot.quieter (x : Slot) (silentTime : Int) : Slot :=
  let n := count16 x.silentTimer
  { x with silentTimer := n, state := if silentTime < (n : Int) then .silent else x.state }

/-- R143: slot k at a scan with the trailer moving. -/
def State.scanSlot (s : State) (k : Nat) : State :=
  let x := s.slot k
  if x.occupied ∧ x.state ≠ .silent then
    let y := x.quieter s.tyu.group.silentTime
    (s.setSlot k y).reportTyre k x.state y
  else s

/-- R143: the scan of the slots, with the exports recomputed when a state changed. -/
def State.scanSlots (s : State) : State :=
  let t := (List.range s.tyu.slots.length).foldl State.scanSlot s
  if t.tyu.slots.map (fun x => x.state) = s.tyu.slots.map (fun x => x.state) then t else t.recomputeExports

/-- R143: the next scan falls 1 s later. -/
def State.beginScan (s : State) : State := s.setTyu { s.tyu with due := s.after 1000 }

/-- R143: the scan period expires. -/
def State.scanExpired (s : State) : State :=
  if s.isRunning && s.isDue s.tyu.due then
    let t := s.beginScan
    (if 300 ≤ t.wsu.vref then t.scanSlots else t).rewriteTyres
  else s

end Sys2Proof.Machine
end

