-- ==== Sys2Proof/Machine/Exchange.lean ====
section
/-! DEFINITION. Machine/Exchange.lean: the serial memory port (R158), the regions of exchange memory and the registers
(R159), the read and write actions of the registers (R163, R169 to R172), and the REPORT take (R175). -/

namespace Sys2Proof.Machine

/-! ### Takes -/

/-- R175: the outcome of the REPORT table as it stands, and its clamped fields. -/
def State.reportVerdict (s : State) : Outcome × List Nat :=
  validate ReportGroup.checks (fun _ => []) (s.settingWords .report 2)

/-- R175: the REPORT group is adopted in the event of its request; then JRW judges its room. -/
def State.adoptReport (s : State) : State :=
  let v := s.reportVerdict
  ({ s with jrw := { s.jrw with group := ReportGroup.ofFields v.2 } }.takeOutcome .report v.1).judgeRoom

/-- R163: what a request reaches in the event of the write: REPORT and TYRE at once, the others at their safe points. -/
def State.requestReaches (s : State) : Request → State
  | .report => s.adoptReport
  | .tyre => s.offerTyre
  | .vehicle | .load | .slip | .valve | .roll | .air | .clearFaults => s

/-- R163: a bit of TAKE written as 1. A request already pending has no further effect. -/
def State.request (s : State) (r : Request) : State := if s.isPending r then s else (s.setPending r).requestReaches r

/-- R163: a write of TAKE; the bits are taken in ascending order (log 12). -/
def State.writeTake (s : State) (value : Half) : State :=
  Request.all.foldl (fun t r => if value.getLsbD r.index then t.request r else t) s

/-- Table 10.5: the pending set as TAKE reads. -/
def State.takeValue (s : State) : Half :=
  BitVec.ofNat 16 (Request.all.foldr (fun r n => flag (s.isPending r) + 2 * n) 0)

/-! ### Attention and HEALTH -/

/-- R169: a poll. -/
def State.poll (s : State) : State := { s with atc := s.atc.poll }

/-- R170: JRW judges occupied afresh when the level that left service is JOURNAL. -/
def State.askJournal (s : State) (l : Level) : State := if l = .journal then s.judgeRoom else s

/-- R170: a level leaves service, and a level source's condition is judged. -/
def State.endLevel (s : State) (l : Level) : State :=
  let t := { s with atc := s.atc.leave l }.askJournal l
  { t with atc := t.atc.rejudge l }

/-- R170: a write of ATTN_END. -/
def State.writeEnd (s : State) (value : Half) : State :=
  match s.atc.endTarget value with
  | none => s
  | some l => s.endLevel l

/-- R171: a write of ATTN_MASK. -/
def State.writeMask (s : State) (value : Half) : State := { s with atc := s.atc.writeMask value }

/-- R172: the read action of HEALTH. -/
def State.readHealth (s : State) : State := { s with health := s.healthAfterRead }

/-! ### Registers (Table 10.5) -/

/-- Table 10.5: the registers. -/
inductive Register where
  | ident | health | attnPoll | attnEnd | attnMask | take
  deriving DecidableEq, Repr

/-- Table 10.5: the register of a byte address of the register area. -/
def registerAt (a : Nat) : Register :=
  if a < 0x3FF2 then .ident
  else if a < 0x3FF4 then .health
  else if a < 0x3FF6 then .attnPoll
  else if a < 0x3FF8 then .attnEnd
  else if a < 0x3FFA then .attnMask
  else .take

/-- Table 10.5: the value of a register as it stands. -/
def State.registerValue (s : State) : Register → Half
  | .ident => 0x2E61
  | .health => s.healthValue
  | .attnPoll => s.atc.pollValue
  | .attnEnd => levelBits s.atc.inService
  | .attnMask => levelBits s.atc.mask
  | .take => s.takeValue

/-- R159: the read action of a register. -/
def State.registerRead (s : State) : Register → State
  | .health => s.readHealth
  | .attnPoll => s.poll
  | .ident | .attnEnd | .attnMask | .take => s

/-- R159: the write action of a register. -/
def State.registerWrite (s : State) (value : Half) : Register → State
  | .ident | .health | .attnPoll => s
  | .attnEnd => s.writeEnd value
  | .attnMask => s.writeMask value
  | .take => s.writeTake value

/-! ### Transactions (R158) -/

/-- Table 10.1: memory proper lies below the registers. -/
def isMemory (a : Nat) : Bool := decide (a < registerBase)

/-- Table 10.1: the register area. -/
def isRegister (a : Nat) : Bool := decide (registerBase ≤ a) && decide (a < 0x3FFC)

/-- Table 10.1: the regions the host writes. -/
def hostWrites (a : Nat) : Bool := decide (a < 0x0C00) || (decide (0x1800 ≤ a) && decide (a < registerBase))

/-- R158: the state with the transaction in progress replaced. -/
def State.setTxn (s : State) (t : Option Transaction) : State := { s with port := { s.port with txn := t } }

/-- R158: a transaction as it begins at an address, which is taken modulo 0x4000. -/
def Txn.begun (dir : Direction) (address : Half) : Txn :=
  { dir := dir, addr := address.toNat % addressSpace, wordLatch := none, regLatch := none, collected := [], regLow := none }

/-- R158: the address after one data byte. -/
def Txn.advance (t : Txn) : Txn := { t with addr := (t.addr + 1) % addressSpace }

/-- R158: a commit changes the bytes the transaction wrote into the word. -/
def State.commit (s : State) (bytes : List Host.Cell) : State :=
  bytes.foldl (fun t c => t.store8 c.1 [c.2]) s

/-- R158: the bytes a transaction has written into a word and not yet committed. -/
def Transaction.collected : Transaction → List Host.Cell
  | .header _ | .ignored => []
  | .data t => t.collected

/-- R158: the host deasserts select. A WRITE that ends part-way through a word commits it; a READ, an ignored transaction
and one that ends before its address is complete have no effect. -/
def State.endTransaction (s : State) : State :=
  match s.port.txn with
  | none => s
  | some t => (s.commit t.collected).setTxn none

/-- R158: the four bytes of an aligned word. -/
def State.wordBytes (s : State) (base : Nat) : List Byte := (List.range 4).map (fun k => Memory.byte s.mem (base + k))

/-- R158: the latch for the word of an address, fetched when the transaction has none of that word. -/
def State.latched (s : State) (t : Txn) : Nat × List Byte :=
  let base := t.addr - t.addr % 4
  match t.wordLatch with
  | none => (base, s.wordBytes base)
  | some l => if l.1 = base then l else (base, s.wordBytes base)

/-- A byte of a 16-bit value: the lower for an even address, the higher for an odd one. -/
def byteOf (value : Half) (a : Nat) : Byte := if a % 2 = 0 then value.extractLsb' 0 8 else value.extractLsb' 8 8

/-- R158, R159: one byte of a READ: the byte returned, the transaction after it and the state after any read action. -/
def State.readByte (s : State) (t : Txn) : Byte × Txn × State :=
  if isMemory t.addr then
    let l := s.latched t
    (l.2.getD (t.addr % 4) 0, { t with wordLatch := some l }.advance, s)
  else if isRegister t.addr then
    let r := registerAt t.addr
    if t.addr % 2 = 0 then
      (byteOf (s.registerValue r) t.addr, { t with regLatch := some (s.registerValue r) }.advance, s.registerRead r)
    else (byteOf (t.regLatch.getD (s.registerValue r)) t.addr, { t with regLatch := none }.advance, s)
  else (0, t.advance, s)

/-- R158: a memory byte of a WRITE joins the bytes collected for its word; the word's highest byte commits them. -/
def State.writeMemoryByte (s : State) (t : Txn) (b : Byte) : Txn × State :=
  let collected := if hostWrites t.addr then t.collected ++ [(t.addr, b)] else t.collected
  if t.addr % 4 = 3 then ({ t with collected := [] }.advance, s.commit collected)
  else ({ t with collected := collected }.advance, s)

/-- R159: a register byte of a WRITE: the write takes effect at the higher byte after the lower one. -/
def State.writeRegisterByte (s : State) (t : Txn) (b : Byte) : Txn × State :=
  if t.addr % 2 = 0 then ({ t with regLow := some b }.advance, s)
  else
    match t.regLow with
    | none => (t.advance, s)
    | some low => ({ t with regLow := none }.advance, s.registerWrite (b ++ low) (registerAt t.addr))

/-- R158, R159: one byte of a WRITE. -/
def State.writeByte (s : State) (t : Txn) (b : Byte) : Txn × State :=
  if isMemory t.addr then s.writeMemoryByte t b
  else if isRegister t.addr then s.writeRegisterByte t b
  else (t.advance, s)

/-- R158: the state after a data byte of a READ: the byte returned joins `port.out` (log 11). -/
def State.readData (s : State) (t : Txn) : State :=
  let r := s.readByte t
  { r.2.2 with port := { txn := some (.data r.2.1), out := r.2.2.port.out ++ [r.1] } }

/-- R158: the state after a data byte of a WRITE. -/
def State.writeData (s : State) (t : Txn) (b : Byte) : State :=
  let r := s.writeByte t b
  r.2.setTxn (some (.data r.1))

/-- R158: what a command byte asks for: 0x6C READ, 0x6E WRITE, any other nothing. -/
def commandDirection (b : Byte) : Option Direction :=
  if b = 0x6C then some .reading else if b = 0x6E then some .writing else none

/-- R158: how a transaction stands after its first bytes: the command, then the address, most significant byte first.
One with another command is ignored until it ends. -/
def Transaction.ofHeader : List Byte → Transaction
  | [command] =>
    match commandDirection command with
    | none => .ignored
    | some _ => .header [command]
  | [command, high, low] =>
    match commandDirection command with
    | none => .ignored
    | some dir => .data (Txn.begun dir (high ++ low))
  | bytes => .header bytes

/-- R158: the transaction is past the header of a READ. -/
def Transaction.isRead : Transaction → Bool
  | .header _ | .ignored => false
  | .data t => decide (t.dir = .reading)

/-- R158: a byte of the command or the address. A READ whose address is complete has returned nothing yet. -/
def State.headerByte (s : State) (bytes : List Byte) (b : Byte) : State :=
  let t := Transaction.ofHeader (bytes ++ [b])
  { s with port := { txn := some t, out := if t.isRead then [] else s.port.out } }

/-- R158: one byte on the line. With no transaction in progress, and in an ignored one, it has no effect. -/
def State.portByte (s : State) (b : Byte) : State :=
  match s.port.txn with
  | none => s
  | some .ignored => s
  | some (.header bytes) => s.headerByte bytes b
  | some (.data t) =>
    match t.dir with
    | .reading => s.readData t
    | .writing => s.writeData t b

/-- R158: the host asserts select: a transaction begins, and one still in progress ends first (log 10). -/
def State.beginTransaction (s : State) : State := s.endTransaction.setTxn (some (.header []))

/-- R158: a transaction or a part of one: select asserted or still so, the bytes in turn, select deasserted or not. While
nRESET is asserted the port ignores it. -/
def State.portPart (s : State) (select : Bool) (bytes : List Byte) (ends : Bool) : State :=
  if s.pins.nreset then s
  else
    let t := bytes.foldl State.portByte (if select then s.beginTransaction else s)
    if ends then t.endTransaction else t

/-! ### Register rows: each a transaction of its own (log 10) -/

/-- A read of a register as a whole transaction. -/
def State.readRegister (s : State) (r : Register) : State :=
  if s.pins.nreset then s
  else
    let t := s.endTransaction
    let v := t.registerValue r
    { t with port := { t.port with out := [byteOf v 0, byteOf v 1] } }.registerRead r

/-- A write of a register as a whole transaction. -/
def State.writeRegister (s : State) (r : Register) (value : Half) : State :=
  if s.pins.nreset then s else s.endTransaction.registerWrite value r

/-- R163: a write of TAKE with one bit set. -/
def State.writeRequest (s : State) (r : Request) : State :=
  if s.pins.nreset then s else s.endTransaction.request r

/-- R159, R171: the register of a row whose write is ignored. -/
def namedRegister : ReadOnlyRegister → Register
  | .ident => .ident
  | .health => .health
  | .attnPoll => .attnPoll

end Sys2Proof.Machine
end

