-- ==== Sys2Proof/Machine/Speed.lean ====
section
/-! DEFINITION. Machine/Speed.lean: the wheel speed unit (R57 to R73): edges, the steps of a measurement window up to the
completion it hands to SCU, and its section. The window itself, with SCU's part, stands in Machine/Slip.lean. -/

namespace Sys2Proof.Machine

/-- Table 4.1: the channel of a wheel end. -/
def wheelChannel : Wheel → Channel
  | .a1l => .front
  | .a1r => .front
  | .a2l => .left
  | .a2r => .right
  | .a3l => .left
  | .a3r => .right

/-- Table 4.2: LIFTED applies to the A1 wheel ends. -/
def onLiftAxle : Wheel → Bool
  | .a1l | .a1r => true
  | .a2l | .a2r | .a3l | .a3r => false

/-- The record of a wheel end. -/
def State.wheel (s : State) (w : Wheel) : WheelEnd := s.wsu.wheels.get w

/-- The state with the record of a wheel end replaced. -/
def State.setWheel (s : State) (w : Wheel) (r : WheelEnd) : State :=
  { s with wsu := { s.wsu with wheels := s.wsu.wheels.set w r } }

/-- A step of the window on the six records in wheel end index order (R58). -/
def State.eachWheel (s : State) (f : State → Wheel → State) : State := Wheel.all.foldl f s

/-! ### Edges -/

/-- R59: a record after an edge. -/
def WheelEnd.afterEdge (r : WheelEnd) (now : Time) : WheelEnd :=
  { r with edges := count8 r.edges, firstEdge := some (r.firstEdge.getD now), lastEdge := some now }

/-- R59: an edge arrives. Edges of a NOT_FITTED wheel end, and all edges in START and SAFE, are ignored. -/
def State.edgeArrived (s : State) (w : Wheel) : State :=
  if s.isRunning && (s.wheel w).fitted then s.setWheel w ((s.wheel w).afterEdge s.us) else s

/-! ### Step 1: travel and fitted wheel ends -/

/-- R60: the travel per tooth of a VEHICLE group. -/
def VehicleGroup.travel (v : VehicleGroup) : Int := truncated (v.circumference * 1000) v.teeth

/-- R60: the travel per tooth of the group in force, or of the interim 3200 mm and 100 teeth. -/
def State.travelInForce (s : State) : Int :=
  match s.ldu.vehicle with
  | none => 32000
  | some v => v.travel

/-- R60, R73: whether a wheel end is fitted under the group in force, or under the interim values. -/
def State.fittedInForce (s : State) (w : Wheel) : Bool :=
  match s.ldu.vehicle with
  | none => true
  | some v => v.fitted.get w

/-- R60: the record of a wheel end that passes from FITTED to NOT_FITTED. -/
def WheelEnd.cleared (r : WheelEnd) : WheelEnd :=
  { r with fitted := false, v := 0, vc := 0, c := 0, aw := 0, slip := 0, edges := 0, firstEdge := none
           lastEdge := none, prevVc := none, zeroStart := none, recoveryStart := none, sensor := .ok
           faultKind := none, excl := ⟨true, false, false, false⟩, included := false }

/-- R60: the record of a wheel end at step 1. -/
def WheelEnd.refitted (r : WheelEnd) (fitted : Bool) : WheelEnd :=
  if fitted then
    if r.fitted then r else { r with fitted := true, excl := { r.excl with notFitted := false } }
  else if r.fitted then r.cleared
  else r

/-- R60: step 1 of a window. -/
def State.fixTravel (s : State) : State :=
  { s with wsu := { s.wsu with travel := s.travelInForce }}.eachWheel
    (fun t w => t.setWheel w ((t.wheel w).refitted (t.fittedInForce w)))

/-! ### Step 2: raw speeds -/

/-- R61: the raw speed of two or more edges. -/
def WheelEnd.toothSpeed (r : WheelEnd) (travel : Int) : Int :=
  let span := elapsed (r.lastEdge.getD 0) (r.firstEdge.getD 0)
  let period := truncated span ((r.edges : Int) - 1)
  if period = 0 then 4000 else least4000 (truncated (travel * 100) period)
where
  /-- "clamped to at most 4000" -/
  least4000 (x : Int) : Int := if 4000 < x then 4000 else x

/-- R62: the highest speed a wheel could have without a further edge; a free value when no time has passed (log 20). -/
def speedBound (travel since : Int) (free : Nat) : Int :=
  if since = 0 then ((Config.freeSpeedBound free : Nat) : Int) else truncated (travel * 100) since

/-- R62: the raw speed of a wheel end with no tooth period in the window. -/
def WheelEnd.coastSpeed (r : WheelEnd) (travel : Int) (now : Time) (free : Nat) : Int :=
  match r.lastEdge with
  | none => 0
  | some t =>
    if 200000 ≤ elapsed now t then 0
    else
      let bound := speedBound travel (elapsed now t) free
      if r.v ≤ bound then r.v else bound

/-- R61, R62: the raw speed of a fitted wheel end; 0 while its sensor state is FAULT (R66). -/
def WheelEnd.rawSpeed (r : WheelEnd) (travel : Int) (now : Time) (free : Nat) : Int :=
  if r.sensor = .fault then 0
  else if 2 ≤ r.edges then r.toothSpeed travel
  else r.coastSpeed travel now free

/-- R58 step 2: the record with its raw speed, the window's edge count and first edge time cleared. -/
def WheelEnd.measured (r : WheelEnd) (travel : Int) (now : Time) (free : Nat) : WheelEnd :=
  if r.fitted then { r with v := r.rawSpeed travel now free, edges := 0, firstEdge := none } else r

/-- R58 step 2 for every wheel end; the free value of R62 that wheel end i would take is numbered 6 × freeCount + i. -/
def State.measureSpeeds (s : State) : State :=
  let t := s.eachWheel (fun t w => t.setWheel w ((t.wheel w).measured s.wsu.travel s.us (6 * s.freeCount + w.index)))
  { t with freeCount := s.freeCount + 1 }

/-! ### Step 3: circuits -/

/-- R66, R67: a record as a sensor fault is declared. -/
def WheelEnd.faulted (r : WheelEnd) (kind : WheelFault) : WheelEnd :=
  { r with sensor := .fault, faultKind := some kind, faultCount := count16 r.faultCount, zeroStart := none
           recoveryStart := none, v := 0, vc := 0, aw := 0, prevVc := none }

/-- A FAULT record of a wheel end with its raw speed and the vref that stands. -/
def State.wheelRecord (s : State) (w : Wheel) (info : Nat) (speed : Int) : Record :=
  { kind := .fault, subject := w.index, info := info, a := speed, b := s.wsu.vref }

/-- R66: an open-circuit fault is declared; the record holds the raw speed that step 2 found, before the fault makes it 0
(log 38). -/
def State.declareOpen (s : State) (w : Wheel) : State :=
  ((s.setWheel w ((s.wheel w).faulted .openCircuit)).raise .fault).hand (s.wheelRecord w 0x0201 (s.wheel w).v)

/-- R66: the circuit of a fitted wheel end is read and judged. -/
def State.judgeCircuit (circuits : PerWheel Circuit) (s : State) (w : Wheel) : State :=
  let r := s.wheel w
  if r.fitted then
    let t := s.setWheel w { r with circuit := circuits.get w }
    if r.sensor = .ok ∧ circuits.get w = .opened then t.declareOpen w else t
  else s

/-! ### Step 4: radius correction and acceleration -/

/-- R63: the record with c, vc, a_w and the previous vc. -/
def WheelEnd.corrected (r : WheelEnd) (c : Int) : WheelEnd :=
  if r.fitted then
    let vc := rounded (r.v * c) 4096
    { r with
      c := c
      vc := vc
      aw := match r.prevVc with | none => 0 | some p => (vc - p) * 10
      prevVc := if r.sensor = .fault then none else some vc }
  else { r with c := 0, vc := 0, aw := 0, prevVc := none }

/-- R63: step 4 of a window. -/
def State.correctSpeeds (s : State) : State :=
  s.eachWheel (fun t w => t.setWheel w ((t.wheel w).corrected (t.tyu.exports.get w).factor))

/-! ### Step 5: inclusion -/

/-- R64: the exclusion set by Table 4.2. -/
def WheelEnd.exclusion (r : WheelEnd) (lifted flat : Bool) : Exclusion :=
  { notFitted := !r.fitted, sensorFault := r.fitted && decide (r.sensor = .fault), lifted := lifted
    flatTyre := r.fitted && flat }

/-- R57: the exclusion set is empty. -/
def Exclusion.isEmpty (e : Exclusion) : Bool := !(e.notFitted || e.sensorFault || e.lifted || e.flatTyre)

/-- R64: the record with an exclusion set and the inclusion that follows from it. -/
def WheelEnd.withExclusion (r : WheelEnd) (e : Exclusion) : WheelEnd := { r with excl := e, included := e.isEmpty }

/-- R64: LIFTED holds for a wheel end. -/
def State.liftedNow (s : State) (w : Wheel) : Bool :=
  onLiftAxle w && (decide (s.lfc.state = .raising) || decide (s.lfc.state = .raised))

/-- R64: step 5 of a window. -/
def State.settleExclusions (s : State) : State :=
  s.eachWheel (fun t w =>
    t.setWheel w ((t.wheel w).withExclusion ((t.wheel w).exclusion (t.liftedNow w) (t.tyu.exports.get w).flat)))

/-! ### Step 6: the reference speed -/

/-- The two highest of a list of speeds, the higher first. -/
def twoHighest : List Int → Option Int × Option Int
  | [] => (none, none)
  | x :: xs =>
    match twoHighest xs with
    | (none, _) => (some x, none)
    | (some a, b) =>
      if a ≤ x then (some x, some a)
      else (some a, some (match b with | none => x | some y => if y ≤ x then x else y))

/-- R69: the candidate speed. -/
def candidateOf (speeds : List Int) : Int :=
  match twoHighest speeds with
  | (_, some b) => b
  | (some a, none) => a
  | (none, none) => 0

/-- R69: the corrected speeds of the INCLUDED wheel ends. -/
def State.includedSpeeds (s : State) : List Int :=
  (s.wsu.wheels.toList.filter (fun r => r.included)).map (fun r => r.vc)

/-- R69: step 6 of a window. -/
def State.computeReference (s : State) : State :=
  let candidate := candidateOf s.includedSpeeds
  let floor := s.wsu.vref - 8
  { s with wsu := { s.wsu with
    candidate := candidate
    includedCount := s.includedSpeeds.length
    vref := if floor ≤ candidate then candidate else floor
    ramp := decide (candidate < floor) } }

/-! ### Step 7: slip -/

/-- R70: the slip of a wheel end. -/
def WheelEnd.slipOf (r : WheelEnd) (vref vmin : Int) : Int :=
  if !r.fitted || decide (r.sensor = .fault) then 0
  else if vref < vmin ∨ vref ≤ r.vc then 0
  else truncated ((vref - r.vc) * 1000) vref

/-- R70: step 7 of a window. -/
def State.computeSlips (s : State) : State :=
  s.eachWheel (fun t w =>
    t.setWheel w { t.wheel w with slip := (t.wheel w).slipOf t.wsu.vref t.scu.group.vmin })

/-! ### Step 8: the zero-speed condition and recovery -/

/-- R67: the zero-speed condition of a wheel end in sensor state OK. -/
def State.standsStill (s : State) (w : Wheel) : Bool :=
  let r := s.wheel w
  r.fitted && !r.excl.lifted && decide (r.v = 0) && decide (500 ≤ s.wsu.vref)
    && decide ((s.slip (wheelChannel w)).state ≠ .dump)

/-- R67: a zero-speed fault is declared; the wheel end is EXCLUDED at once. -/
def State.declareZeroSpeed (s : State) (w : Wheel) : State :=
  let r := (s.wheel w).faulted .zeroSpeed
  ((s.setWheel w { r with excl := { r.excl with sensorFault := true }, included := false }).raise .fault).hand
    (s.wheelRecord w 0x0202 0)

/-- R67: the zero-speed judgement. -/
def State.judgeZeroSpeed (s : State) (w : Wheel) : State :=
  let r := s.wheel w
  if s.standsStill w then
    match r.zeroStart with
    | none => s.setWheel w { r with zeroStart := some s.ms }
    | some t => if 2000 ≤ s.since t then s.declareZeroSpeed w else s
  else s.setWheel w { r with zeroStart := none }

/-- R68: a wheel sensor fault clears. -/
def State.clearWheelFault (s : State) (w : Wheel) (speed : Int) : State :=
  (s.setWheel w { s.wheel w with sensor := .ok, faultKind := none, recoveryStart := none }).hand
    (s.wheelRecord w 0x0203 speed)

/-- R68: the recovery judgement, from the edge count and the tooth speed of this window. -/
def State.judgeRecovery (s : State) (w : Wheel) (edges : Nat) (speed : Int) : State :=
  let r := s.wheel w
  if r.circuit = .closed ∧ 2 ≤ edges then
    match r.recoveryStart with
    | none => s.setWheel w { r with recoveryStart := some s.ms }
    | some t => if 1000 ≤ s.since t then s.clearWheelFault w speed else s
  else s.setWheel w { r with recoveryStart := none }

/-- R67, R68: step 8 of a window; `before` holds the records as step 2 found them. -/
def State.judgeSensor (before : State) (s : State) (w : Wheel) : State :=
  match (s.wheel w).sensor with
  | .ok => s.judgeZeroSpeed w
  | .fault => s.judgeRecovery w (before.wheel w).edges ((before.wheel w).toothSpeed before.wsu.travel)

/-! ### The section and steps 1 to 8 -/

/-- R57, R72: the sensor state codes (log 15). -/
def SensorState.code : SensorState → Nat
  | .ok => 0
  | .fault => 1

/-- R72: the fault kind codes. -/
def faultKindCode : Option WheelFault → Nat
  | none => 0
  | some .openCircuit => 1
  | some .zeroSpeed => 2

/-- R72: the items of a wheel-end record; a_w does not fit in 16 bits. -/
def WheelEnd.items (r : WheelEnd) : List Item :=
  [.flag r.fitted, .half r.sensor.code, .half (faultKindCode r.faultKind), .flag r.excl.notFitted,
    .flag r.excl.sensorFault, .flag r.excl.lifted, .flag r.excl.flatTyre, .int r.v, .int r.c, .int r.vc, .int32 r.aw,
    .int r.slip, .half r.faultCount]

/-- R72: the body of the wheel section. -/
def State.wheelBody (s : State) : List Item :=
  [.int s.wsu.vref, .int s.wsu.candidate, .half s.wsu.includedCount, .flag s.wsu.ramp, .int32 s.wsu.travel]
    ++ s.wsu.wheels.toList.flatMap WheelEnd.items

/-- R72: WSU rewrites its section. -/
def State.rewriteWheels (s : State) : State := s.rewrite .wheels s.wheelBody

/-- R58: the next window expiry falls 10 ms later. -/
def State.beginWindow (s : State) : State := { s with wsu := { s.wsu with due := s.after 10 } }

/-- R58: steps 1 to 8 of a window. -/
def State.windowSteps (s : State) (circuits : PerWheel Circuit) : State :=
  let t := s.beginWindow.fixTravel
  ((t.measureSpeeds.eachWheel (State.judgeCircuit circuits)).correctSpeeds.settleExclusions.computeReference
    ).computeSlips.eachWheel (State.judgeSensor t)

end Sys2Proof.Machine
end

