-- ==== Sys2Proof/Machine/Slip.lean ====
section
/-! DEFINITION. Machine/Slip.lean: the events of the slip control unit (R75 to R92): the window completion, the DUMP
entry with its hand-over to MDU, the hold and step timers, the SLIP take, and the whole measurement window (R58). -/

namespace Sys2Proof.Machine

/-! ### The controlling wheel -/

/-- R76: the wheel ends of a channel, in index order. -/
def channelWheels : Channel → Wheel × Wheel
  | .front => (.a1l, .a1r)
  | .left => (.a2l, .a3l)
  | .right => (.a2r, .a3r)

/-- R76: the INCLUDED wheel end of a channel with the highest slip, the lower index on a tie. -/
def State.controllingWheel (s : State) (c : Channel) : Option Wheel :=
  let a := (channelWheels c).1
  let b := (channelWheels c).2
  match (s.wheel a).included, (s.wheel b).included with
  | true, true => some (if (s.wheel a).slip < (s.wheel b).slip then b else a)
  | true, false => some a
  | false, true => some b
  | false, false => none

/-- R76: the slip of a channel's controlling wheel, as the latest window left it. -/
def State.lambda (s : State) (c : Channel) : Int :=
  match (s.slip c).wheel with
  | none => 0
  | some w => (s.wheel w).slip

/-- R76: the acceleration of a channel's controlling wheel. -/
def State.acceleration (s : State) (c : Channel) : Int :=
  match (s.slip c).wheel with
  | none => 0
  | some w => (s.wheel w).aw

/-! ### Dumping -/

/-- R81: the dump condition. -/
def State.dumpCondition (s : State) (c : Channel) : Bool :=
  let g := s.scu.group
  decide (g.vmin ≤ s.wsu.vref) && decide (0 < s.ldu.demand.d)
    && (decide (g.ldump ≤ s.lambda c)
      || (decide (g.lhold ≤ s.lambda c) && decide (s.acceleration c ≤ -g.adump)))

/-- The smaller of a pressure that may be absent and another. -/
def lowestPd (old : Option Int) (pd : Int) : Int :=
  match old with
  | none => pd
  | some p => least p pd

/-- R80: a slip record as its channel enters DUMP; an entry from PASS opens the episode. -/
def SlipRecord.dumped (r : SlipRecord) (pd : Int) (now : Time) : SlipRecord :=
  let opens := decide (r.state = .pass)
  { r with
    state := .dump
    holdTimer := none
    stepTimer := none
    lock := pd
    pSlip := 0
    dumps := if opens then 1 else count16 r.dumps
    minPd := some (if opens then pd else lowestPd r.minPd pd)
    episodeStart := if opens then some now else r.episodeStart }

/-- R80: a DUMP entry, handed to MDU in the same event. -/
def State.takeDump (s : State) (c : Channel) : State :=
  (s.setSlip c ((s.slip c).dumped (s.pd c) s.ms)).dumpEntry c

/-- R82: a rollover test pulse is in flight on a channel. -/
def State.testInFlight (s : State) : Channel → Bool
  | .front => false
  | .left => decide (s.rou.testChannel = some .left)
  | .right => decide (s.rou.testChannel = some .right)

/-- R82: the slip record of a deferred DUMP entry. -/
def SlipRecord.deferred (r : SlipRecord) (pmax : Int) : SlipRecord :=
  { r with pSlip := pmax, suppressed := true, deferrals := count16 r.deferrals }

/-! ### The judgement of a channel at a window -/

/-- R81, R82: step 5 in PASS. -/
def State.judgePass (s : State) (c : Channel) : State :=
  if s.testInFlight c then
    if s.dumpCondition c then s.setSlip c ((s.slip c).deferred s.pmax)
    else s.setSlip c { s.slip c with pSlip := s.pmax }
  else
    let t := s.setSlip c { s.slip c with pSlip := s.pmax, suppressed := false }
    if s.dumpCondition c then t.takeDump c else t

/-- R83: step 5 in DUMP. -/
def State.judgeDump (s : State) (c : Channel) : State :=
  if s.scu.group.areaccel ≤ s.acceleration c ∨ s.lambda c < s.scu.group.lhold then
    s.setSlip c { s.slip c with state := .hold, pSlip := s.pd c, holdTimer := s.after s.scu.group.holdTime }
  else s.setSlip c { s.slip c with pSlip := 0 }

/-- R84: step 5 in HOLD. -/
def State.judgeHold (s : State) (c : Channel) : State :=
  if s.scu.group.ldump ≤ s.lambda c then s.takeDump c else s

/-- R87: step 5 in REBUILD; the start offset falls by 2, not below 0. -/
def State.judgeRebuild (s : State) (c : Channel) : State :=
  if s.dumpCondition c then (s.setSlip c { s.slip c with offset := (s.slip c).offset - 2 }).takeDump c else s

/-- R75 step 6: the minimum Pd of an open episode. -/
def State.trackMinPd (s : State) (c : Channel) : State :=
  if (s.slip c).state.inEpisode then
    s.setSlip c { s.slip c with minPd := some (lowestPd (s.slip c).minPd (s.pd c)) }
  else s

/-- R79: the release condition. -/
def State.releases (s : State) : Bool := decide (s.ldu.demand.d = 0) || decide (s.wsu.vref < s.scu.group.vmin)

/-- R79, R86: an episode closes into PASS. -/
def State.endEpisode (s : State) (c : Channel) (reason : EndReason) : State :=
  let t := s.closeEpisode c reason
  t.setSlip c { t.slip c with state := .pass, pSlip := s.pmax, holdTimer := none, stepTimer := none }

/-- R79: the end reason of a release. -/
def State.releaseReason (s : State) : EndReason := if s.ldu.demand.d = 0 then .release else .lowSpeed

/-- R75 steps 4 to 6. -/
def State.judgeState (s : State) (c : Channel) : State :=
  if (s.slip c).state.inEpisode && s.releases then s.endEpisode c s.releaseReason
  else
    (match (s.slip c).state with
      | .pass => s.judgePass c
      | .dump => s.judgeDump c
      | .hold => s.judgeHold c
      | .rebuild => s.judgeRebuild c
      | .off => s).trackMinPd c

/-- R77: a channel leaves OFF for PASS. -/
def State.leaveOff (s : State) (c : Channel) : State :=
  s.setSlip c { s.slip c with state := .pass, pSlip := s.pmax, suppressed := false }

/-- R75: the judgement of one channel at a window. -/
def State.judgeChannel (s : State) (c : Channel) : State :=
  let t := s.setSlip c { s.slip c with wheel := s.controllingWheel c }
  if (t.slip c).wheel = none then t.slipOff c .noWheel
  else if (t.chan c).mode = .backup then t.slipOff c .backup
  else if (t.slip c).state = .off then t.leaveOff c
  else t.judgeState c

/-! ### The SLIP take -/

/-- R91: every channel is in PASS or OFF. -/
def State.slipSafePoint (s : State) : Bool := s.scu.channels.toList.all (fun r => !r.state.inEpisode)

/-- R91: the outcome of the SLIP table as it stands, and its clamped fields. -/
def State.slipVerdict (s : State) : Outcome × List Nat :=
  validate SlipGroup.checks SlipGroup.refusals (s.settingWords .slip 27)

/-- R92: an accepted SLIP group, with the start offset of each channel. -/
def State.adoptSlipGroup (s : State) (g : SlipGroup) : State :=
  { s with scu := {
    group := g
    channels := PerChannel.tabulate (fun c => { s.slip c with offset := g.startOffset c }) } }

/-- R91: a pending SLIP group is adopted at its safe point. -/
def State.adoptSlip (s : State) : State :=
  if s.isPending .slip && s.slipSafePoint then
    let v := s.slipVerdict
    let t := if v.1.isAccepted then s.adoptSlipGroup (SlipGroup.ofFields v.2) else s
    t.takeOutcome .slip v.1
  else s

/-! ### The events -/

/-- R75: SCU at a window completion. -/
def State.windowCompletion (s : State) : State := (Channel.all.foldl State.judgeChannel s).adoptSlip.rewriteSlip

/-- R58: the measurement window expires, with what the circuit monitors read. -/
def State.windowExpired (s : State) (circuits : PerWheel Circuit) : State :=
  if s.isRunning && s.isDue s.wsu.due then (s.windowSteps circuits).windowCompletion.rewriteWheels else s

/-- R85: the slip limit of a rebuild at an index. -/
def State.rebuildLimit (s : State) (c : Channel) (index : Nat) : Int :=
  rounded ((s.slip c).lock * s.scu.group.slope.getD index 0) 256

/-- R84: a channel enters REBUILD at the base of its span plus its start offset. -/
def State.enterRebuild (s : State) (c : Channel) : State :=
  let index := (s.span c).base + (s.slip c).offset
  (s.setSlip c { s.slip c with
    state := .rebuild, index := index, pSlip := s.rebuildLimit c index, holdTimer := none
    stepTimer := s.after s.scu.group.stepTime }).rewriteSlip

/-- R84: the hold timer of a channel expires. A restart changes nothing the section shows (log 34). -/
def State.holdTimerExpired (s : State) (c : Channel) : State :=
  if (s.slip c).state = .hold && s.isDue (s.slip c).holdTimer then
    if s.lambda c < s.scu.group.lhold then s.enterRebuild c
    else s.setSlip c { s.slip c with holdTimer := s.after s.scu.group.holdTime }
  else s

/-- R86: the rebuild of a channel advances by one entry. -/
def State.advanceRebuild (s : State) (c : Channel) : State :=
  let index := (s.slip c).index + 1
  s.setSlip c { s.slip c with
    index := index, pSlip := s.rebuildLimit c index, stepTimer := s.after s.scu.group.stepTime }

/-- R86: the step timer of a channel expires: an advance, or autostop at the top of the span. -/
def State.stepTimerExpired (s : State) (c : Channel) : State :=
  if (s.slip c).state = .rebuild && s.isDue (s.slip c).stepTimer then
    (if (s.slip c).index < (s.span c).top then s.advanceRebuild c else s.endEpisode c .autostop).rewriteSlip
  else s

end Sys2Proof.Machine
end

