-- ==== Sys2Proof/Machine/Rollover.lean ====
section
/-! DEFINITION. Machine/Rollover.lean: the rollover unit (R116 to R135): threshold, transfer, the stage judgements, the
test pulse, the requests, the unavailable flag, the ROLL take and the evaluation. -/

namespace Sys2Proof.Machine

/-! ### Sides, codes and the section -/

/-- The state with the rollover record replaced. -/
def State.setRou (s : State) (r : Rou) : State := { s with rou := r }

/-- R116: the other side. -/
def Side.opposite : Side → Side
  | .left => .right
  | .right => .left

/-- R116: the rear channel of a side. -/
def Side.channel : Side → Channel
  | .left => .left
  | .right => .right

/-- R116: the side codes. -/
def Side.code : Side → Nat
  | .left => 1
  | .right => 2

/-- R122: the outer side of a curve by the sign of Af. -/
def outerOf (af : Int) : Side := if 0 < af then .right else .left

/-- R132: the stage codes. -/
def Stage.code : Stage → Nat
  | .quiet => 0
  | .watch => 1
  | .test => 2
  | .brake => 3
  | .holdoff => 4

/-- R132: the test result codes, which the section shows too, with 0 for NONE: R134 gives no code for it (log 15). -/
def TestResult.code : TestResult → Nat
  | .none => 0
  | .grip => 1
  | .lift => 2
  | .inconclusive => 3

/-- R132: the causes of a ROLL_STAGE record. -/
inductive StageCause where
  | watchLevel | calm | testStart | testEnd | threshold | transfer | liftSlip | release | holdoffDone | ayInvalid
  | unavailable
  deriving DecidableEq, Repr

/-- R132: the cause codes. -/
def StageCause.code : StageCause → Nat
  | .watchLevel => 0
  | .calm => 1
  | .testStart => 2
  | .testEnd => 3
  | .threshold => 4
  | .transfer => 5
  | .liftSlip => 6
  | .release => 7
  | .holdoffDone => 8
  | .ayInvalid => 9
  | .unavailable => 10

/-- R132: the end causes of a ROLL_TEST record. -/
inductive TestEnd where
  | duration | liftSlip | threshold | transfer | demand | channel | sign | ayInvalid
  deriving DecidableEq, Repr

/-- R132: the end cause codes. -/
def TestEnd.code : TestEnd → Nat
  | .duration => 0
  | .liftSlip => 1
  | .threshold => 2
  | .transfer => 3
  | .demand => 4
  | .channel => 5
  | .sign => 6
  | .ayInvalid => 7

/-- R134: the transfer as the section shows it. -/
def transferItem : Option Int → Item
  | none => .half 0x8000
  | some t => .int t

/-- R134: the age of the last test, 0xFFFFFFFF when absent. -/
def State.lastTestAge (s : State) : Nat :=
  match s.rou.lastTest with
  | none => 0xFFFFFFFF
  | some t => (s.since t).toNat

/-- R134: the body of the rollover section, with the age of the last test as given. At step 7 a calm run is shorter than
the release time (R123) and a test than its duration (R125), so both fit in 16 bits; nothing bounds the age of the
stage (log 16). -/
def State.rolloverBody (s : State) (lastTestAge : Nat) : List Item :=
  let r := s.rou
  [.half r.stage.code, .half r.outer.code, .int r.af, .int r.aThr, .int r.aWatch, .int r.aRelease,
    transferItem r.transfer, .int32 (s.since r.stageEntry), .int (s.ageOf r.calmStart), .int (s.ageOf r.testStart),
    .half (match r.testChannel with | none => 0 | some c => c.code), .half r.testResult.code, .int r.testPeak,
    .word lastTestAge, .int r.pRoll.front, .int r.pRoll.left, .int r.pRoll.right, .flag r.unavailable,
    .flag r.degraded, .half r.interventions, .half r.tests, .half r.refusals] ++ r.group.items

/-- R134: ROU rewrites its section. -/
def State.rewriteRollover (s : State) : State := s.rewrite .rollover (s.rolloverBody s.lastTestAge)

/-! ### Steps 1 to 3: adoption, threshold, transfer -/

/-- R133: the outcome of the ROLL table as it stands, and its clamped fields. -/
def State.rollVerdict (s : State) : Outcome × List Nat :=
  validate RollGroup.checks RollGroup.refusals (s.settingWords .roll 18)

/-- R133: a pending ROLL group is adopted in QUIET. -/
def State.adoptRoll (s : State) : State :=
  if s.isPending .roll && decide (s.rou.stage = .quiet) then
    let v := s.rollVerdict
    let t := if v.1.isAccepted then s.setRou { s.rou with group := RollGroup.ofFields v.2 } else s
    t.takeOutcome .roll v.1
  else s

/-- R118: the threshold from the REAR load ratio, the tyre penalty and the degraded flag. -/
def RollGroup.threshold (g : RollGroup) (r penalty : Int) (degraded : Bool) : Int :=
  let load := g.aEmpty - rounded ((g.aEmpty - g.aLaden) * r) 4096
  let slosh := if g.sloshLow ≤ r ∧ r ≤ g.sloshHigh then load - g.sloshPenalty else load
  let tyres := slosh - penalty
  greatest (if degraded then truncated (tyres * 9) 10 else tyres) 100

/-- R118: the threshold and the two levels derived from it. -/
def State.computeThreshold (s : State) : State :=
  let thr := s.rou.group.threshold s.ldu.rear.r s.tyu.penalty s.rou.degraded
  s.setRou { s.rou with aThr := thr, aWatch := truncated (thr * 75) 100, aRelease := truncated (thr * 60) 100 }

/-- R120: the bellows lateral transfer. -/
def transferOf (bl br : Int) : Int := if bl + br = 0 then 0 else truncated ((bl - br) * 1000) (bl + br)

/-- R120: step 3 of an evaluation. -/
def State.computeTransfer (s : State) : State :=
  let t := if s.valid .bl && s.valid .br then some (transferOf (s.value .bl) (s.value .br)) else none
  s.setRou { s.rou with transfer := t }

/-! ### The conditions of step 4 -/

/-- R129: Af as the comparisons of steps 4 and 5 take it, 0 while the Ay entry is invalid. -/
def State.afTaken (s : State) : Int := if s.valid .ay then s.rou.af else 0

/-- R121: the speed clause of both BRAKE conditions. -/
def State.atRollSpeed (s : State) : Bool := decide (s.rou.group.vrollMin ≤ s.wsu.vref)

/-- R121: the threshold condition. -/
def State.thresholdCondition (s : State) : Bool := decide (s.rou.aThr ≤ magnitude s.afTaken) && s.atRollSpeed

/-- R120: the transfer reaches its limit; an absent one does not. -/
def State.transferReached (s : State) : Bool :=
  match s.rou.transfer with
  | none => false
  | some t => decide (s.rou.group.transferLimit ≤ magnitude t)

/-- R121: the transfer condition. -/
def State.transferCondition (s : State) : Bool := s.transferReached && s.atRollSpeed

/-- R121: the BRAKE condition that holds, the threshold condition first. -/
def State.brakeCause (s : State) : Option StageCause :=
  if s.thresholdCondition then some .threshold else if s.transferCondition then some .transfer else none

/-- R123, R127: Af lies below the release level. -/
def State.belowRelease (s : State) : Bool := decide (magnitude s.afTaken < s.rou.aRelease)

/-- R126, R131: the rear unit is in BACKUP. -/
def State.rearInBackup (s : State) : Bool := decide (s.unitMode .rear = .backup)

/-! ### Stage changes -/

/-- R132: the ROLL_STAGE record of a change. -/
def State.stageRecord (s : State) (before after : Stage) (cause : StageCause) : Record :=
  { kind := .rollStage, subject := s.rou.outer.code, info := before.code * 256 + after.code, a := s.rou.af
    b := s.rou.aThr * 65536 + (flag s.rou.unavailable : Int) * 256 + cause.code }

/-- R116, R122, R123: the record as its stage changes: the stage entry is this evaluation; the calm start, which
belongs to WATCH, is absent (log 32). -/
def Rou.enter (r : Rou) (stage : Stage) (now : Time) : Rou :=
  { r with stage := stage, stageEntry := now, calmStart := none }

/-- R132: the stage changes, with its record. -/
def State.changeStage (s : State) (stage : Stage) (cause : StageCause) : State :=
  let t := s.setRou (s.rou.enter stage s.ms)
  t.hand (t.stageRecord s.rou.stage stage cause)

/-- R126: the outer side that the cause of a BRAKE entry sets. -/
def State.brakeSide (s : State) : StageCause → Side
  | .threshold => outerOf s.afTaken
  | .transfer => if 0 < s.rou.transfer.getD 0 then .left else .right
  | _ => s.rou.outer

/-- R126: the bookkeeping of an entry to BRAKE. -/
def State.brakeRecord (s : State) (cause : StageCause) : Rou :=
  { s.rou.enter .brake s.ms with
    outer := s.brakeSide cause, interventions := count16 s.rou.interventions, unavailable := s.rearInBackup }

/-- R126: an entry to BRAKE: outer side and bookkeeping, the lift axle, the unavailable flag, ROLL attention and the
record. -/
def State.enterBrake (s : State) (cause : StageCause) : State :=
  let t := (s.setRou (s.brakeRecord cause)).rolloverLowering.raise .roll
  t.hand (t.stageRecord s.rou.stage .brake cause)

/-! ### QUIET and WATCH -/

/-- R122, R123: the outer side follows the sign of an Af that is not 0. -/
def State.followOuter (s : State) : State :=
  if s.afTaken = 0 then s else s.setRou { s.rou with outer := outerOf s.afTaken }

/-- R122: Af reaches the watch level. -/
def State.watchWanted (s : State) : Bool :=
  decide (s.rou.aWatch ≤ magnitude s.afTaken) && s.atRollSpeed && s.valid .ay

/-- R122: step 4 in QUIET. -/
def State.judgeQuiet (s : State) : State :=
  match s.brakeCause with
  | some cause => s.enterBrake cause
  | none => if s.watchWanted then s.followOuter.changeStage .watch .watchLevel else s.followOuter

/-- R124: the inner rear channel. -/
def State.innerChannel (s : State) : Channel := s.rou.outer.opposite.channel

/-- R124: conditions 1 to 3 of a test. -/
def State.testWanted (s : State) : Bool :=
  (match s.rou.lastTest with
    | none => true
    | some t => decide (s.rou.group.testInterval ≤ s.since t))
  && decide (s.ldu.demand.d ≤ s.rou.group.testSuppress)
  && decide ((s.chan s.innerChannel).mode = .regulate) && decide ((s.slip s.innerChannel).state = .pass)

/-- R124: the sign of Af; a free value at 0 (log 19). -/
def State.afSign (s : State) : Sign :=
  if 0 < s.rou.af then .positive
  else if s.rou.af < 0 then .negative
  else if Config.freeTestSign s.freeCount then .positive else .negative

/-- R124: the record of a granted test. -/
def State.testRecord (s : State) : Rou :=
  { s.rou with
    testStart := some s.ms, lastTest := some s.ms, testChannel := some s.rou.outer.opposite, testSign := some s.afSign
    testResult := .none, testPeak := 0, tests := count16 s.rou.tests }

/-- R124: a granted test starts. -/
def State.startTest (s : State) : State :=
  ({ s with rou := s.testRecord, freeCount := s.freeCount + 1 }).changeStage .test .testStart

/-- R124: ROU judges the start of a test. -/
def State.judgeTestStart (s : State) : State :=
  if s.testWanted then
    let t := s.answerRequest .test
    if s.wouldGrant .test then t.startTest else t.setRou { t.rou with refusals := count16 t.rou.refusals }
  else s

/-- R123: the calm run after this evaluation. -/
def State.calmAfter (s : State) : Option Time := if s.belowRelease then some (s.rou.calmStart.getD s.ms) else none

/-- R123: the calm run has lasted the release time. -/
def State.isCalm (s : State) : Bool :=
  match s.calmAfter with
  | none => false
  | some t => decide (s.rou.group.releaseTime ≤ s.since t)

/-- R123, R129: step 4 in WATCH. -/
def State.judgeWatch (s : State) : State :=
  match s.brakeCause with
  | some cause => s.enterBrake cause
  | none =>
    if !s.valid .ay then s.changeStage .quiet .ayInvalid
    else if s.isCalm then s.changeStage .quiet .calm
    else (s.setRou { s.rou with calmStart := s.calmAfter }).followOuter.judgeTestStart

/-! ### TEST -/

/-- R125: the rear wheel ends of a side. -/
def sideWheels : Side → List Wheel
  | .left => [.a2l, .a3l]
  | .right => [.a2r, .a3r]

/-- R125: the slips of the INCLUDED rear wheel ends on the inner side. -/
def State.innerSlips (s : State) : List Int :=
  ((sideWheels s.rou.outer.opposite).filter (fun w => (s.wheel w).included)).map (fun w => (s.wheel w).slip)

/-- R125: the test peak is raised. -/
def State.raisePeak (s : State) : State :=
  s.setRou { s.rou with testPeak := s.innerSlips.foldl greatest s.rou.testPeak }

/-- R125: the ROLL_TEST record of a test that ends. -/
def State.testEndRecord (s : State) (result : TestResult) (cause : TestEnd) : Record :=
  { kind := .rollTest
    subject := match s.rou.testChannel with | none => 0 | some c => c.code
    info := result.code * 256 + cause.code
    a := s.ageOf s.rou.testStart
    b := s.rou.testPeak }

/-- R125: a test ends. -/
def State.endTest (s : State) (result : TestResult) (cause : TestEnd) : State :=
  (s.setRou { s.rou with testResult := result, testStart := none, testSign := none, testChannel := none }).hand
    (s.testEndRecord result cause)

/-- R125: the end cause that goes with a BRAKE condition. -/
def StageCause.endCause : StageCause → TestEnd
  | .threshold => .threshold
  | _ => .transfer

/-- R125 order 2: an inner INCLUDED rear wheel end lifts off. -/
def State.liftsOff (s : State) : Bool := s.innerSlips.any (fun x => decide (s.rou.group.llift ≤ x))

/-- R125 order 5: the test channel is lost. -/
def State.testChannelLost (s : State) : Bool :=
  match s.rou.testChannel with
  | none => false
  | some c => decide ((s.chan c.channel).mode = .backup) || decide ((s.slip c.channel).state = .off)

/-- R125 order 6: Af has the sign opposite to the test sign. -/
def State.signTurned (s : State) : Bool :=
  match s.rou.testSign with
  | none => false
  | some .positive => decide (s.afTaken < 0)
  | some .negative => decide (0 < s.afTaken)

/-- R125 order 7: the test duration has passed. -/
def State.testElapsed (s : State) : Bool := decide (s.rou.group.testDuration ≤ s.ageOf s.rou.testStart)

/-- R125: a test that ends for WATCH. -/
def State.testToWatch (s : State) (result : TestResult) (cause : TestEnd) : State :=
  (s.endTest result cause).changeStage .watch .testEnd

/-- R125, R129: step 4 in TEST. -/
def State.judgeTest (s : State) : State :=
  let t := s.raisePeak
  if !t.valid .ay then
    if t.transferCondition then (t.endTest .inconclusive .transfer).enterBrake .transfer
    else (t.endTest .inconclusive .ayInvalid).changeStage .quiet .ayInvalid
  else if t.liftsOff then (t.endTest .lift .liftSlip).enterBrake .liftSlip
  else
    match t.brakeCause with
    | some cause => (t.endTest .inconclusive cause.endCause).enterBrake cause
    | none =>
      if t.rou.group.testSuppress < t.ldu.demand.d then t.testToWatch .inconclusive .demand
      else if t.testChannelLost then t.testToWatch .inconclusive .channel
      else if t.signTurned then t.testToWatch .inconclusive .sign
      else if t.testElapsed then t.testToWatch .grip .duration
      else t

/-! ### BRAKE and HOLDOFF -/

/-- R127: step 4 in BRAKE. -/
def State.judgeBrake (s : State) : State :=
  if s.belowRelease && !s.transferReached then s.changeStage .holdoff .release else s

/-- R128: every request stands at 0. -/
def State.noRequests (s : State) : Bool :=
  decide (s.rou.pRoll.front = 0) && decide (s.rou.pRoll.left = 0) && decide (s.rou.pRoll.right = 0)

/-- R128: the end of the holdoff has come. -/
def State.holdoffOver (s : State) : Bool :=
  decide (s.rou.group.holdoffTime ≤ s.since s.rou.stageEntry) && s.noRequests

/-- R128: step 4 in HOLDOFF. -/
def State.judgeHoldoff (s : State) : State :=
  match s.brakeCause with
  | some cause => s.enterBrake cause
  | none =>
    if s.holdoffOver then
      if s.valid .ay ∧ s.rou.aWatch ≤ magnitude s.afTaken then s.followOuter.changeStage .watch .holdoffDone
      else s.changeStage .quiet .holdoffDone
    else s

/-- R117 step 4: the stage is judged. -/
def State.judgeStage (s : State) : State :=
  match s.rou.stage with
  | .quiet => s.judgeQuiet
  | .watch => s.judgeWatch
  | .test => s.judgeTest
  | .brake => s.judgeBrake
  | .holdoff => s.judgeHoldoff

/-! ### Step 5: the requests -/

/-- The rear request of a side. -/
def Rou.request (r : Rou) (side : Side) : Int := r.pRoll.get side.channel

/-- R130: the three requests of an intervention with a value on the outer side. -/
def Rou.intervene (r : Rou) (outer : Int) : PerChannel Int :=
  let inner := rounded (outer * r.group.innerShare) 256
  match r.outer with
  | .left => ⟨outer, outer, inner⟩
  | .right => ⟨outer, inner, outer⟩

/-- R130: a request one ramp step lower, at least 0. -/
def Rou.rampedDown (r : Rou) (p : Int) : Int := greatest 0 (p - r.group.rampStep)

/-- R130: the requests for the stage now standing; `entered` tells that BRAKE was entered at this evaluation. -/
def Rou.requests (r : Rou) (entered : Bool) : PerChannel Int :=
  match r.stage with
  | .quiet | .watch => ⟨0, 0, 0⟩
  | .test =>
    match r.outer with
    | .left => ⟨0, 0, r.group.pTest⟩
    | .right => ⟨0, r.group.pTest, 0⟩
  | .brake =>
    if entered then r.intervene (greatest r.group.pRollStart (r.request r.outer))
    else r.intervene (least (r.request r.outer + r.group.rampStep) r.group.pRollMax)
  | .holdoff => ⟨r.rampedDown r.pRoll.front, r.rampedDown r.pRoll.left, r.rampedDown r.pRoll.right⟩

/-- R130: step 5 of an evaluation. -/
def State.setRequests (s : State) (entered : Bool) : State := s.setRou { s.rou with pRoll := s.rou.requests entered }

/-! ### Step 6: the unavailable flag -/

/-- R131: what the unavailable flag should be. -/
def State.unavailableNow (s : State) : Bool := s.rou.stage.intervening && s.rearInBackup

/-- R131: the record of a change of the flag. -/
def State.unavailableRecord (s : State) : Record := s.stageRecord s.rou.stage s.rou.stage .unavailable

/-- R131: step 6 of an evaluation. -/
def State.judgeUnavailable (s : State) : State :=
  if s.unavailableNow = s.rou.unavailable then s
  else
    let t := s.setRou { s.rou with unavailable := s.unavailableNow }
    if t.rou.unavailable then (t.raise .roll).hand t.unavailableRecord
    else if t.rou.stage.intervening then t.hand t.unavailableRecord
    else t

/-! ### The evaluation -/

/-- R117 steps 4 to 6; a flag set at a BRAKE entry is not judged again at that evaluation (R131). -/
def State.judgeRollover (s : State) : State :=
  let t := s.judgeStage
  let entered := decide (s.rou.stage ≠ .brake) && decide (t.rou.stage = .brake)
  let u := t.setRequests entered
  if entered then u else u.judgeUnavailable

/-- R117: the next evaluation falls 20 ms later. -/
def State.beginEvaluation (s : State) : State := s.setRou { s.rou with due := s.after 20 }

/-- R117: the steps of an evaluation; steps 1 and 7 alone in UNCONFIGURED. Step 7 shows the degraded flag as it then
stands, also when the TEST grant of step 4 set it at this evaluation (log 42). -/
def State.evaluate (s : State) : State :=
  let t := s.beginEvaluation.adoptRoll
  if t.xpt.device = .active then t.computeThreshold.computeTransfer.judgeRollover.rewriteRollover
  else t.rewriteRollover

/-- R117: the evaluation period expires. -/
def State.evaluationExpired (s : State) : State := if s.isRunning && s.isDue s.rou.due then s.evaluate else s

end Sys2Proof.Machine
end

