-- ==== Sys2Proof/Machine/Sensors.lean ====
section
/-! DEFINITION. Machine/Sensors.lean: the sensor front end (R2 to R12): conversion, validity, faults and their recovery,
the filtered lateral acceleration and the section. -/

namespace Sys2Proof.Machine

/-- The state with an entry of the sensor value record replaced. -/
def State.setEntry (s : State) (i : Input) (e : Entry) : State :=
  { s with sfe := { s.sfe with entries := s.sfe.entries.set i e } }

/-- R12: the state codes. -/
def Validity.code : Validity → Nat
  | .invalid => 0
  | .valid => 1
  | .stale => 2
  | .fault => 3

/-- Table 1.1: the fault time of an input in milliseconds. -/
def faultTime : Input → Int
  | .pc | .pres | .bl | .br | .bf => 500
  | .pdFront | .pdLeft | .pdRight | .ay => 100

/-- Table 1.1: the lower end of an input's converted range. -/
def rangeLow : Input → Int
  | .ay => -1500
  | .pc | .pres | .bl | .br | .bf | .pdFront | .pdLeft | .pdRight => 0

/-- Table 1.1: the upper end of an input's converted range. -/
def rangeHigh : Input → Int
  | .ay => 1500
  | .pc | .pres | .bl | .br | .bf | .pdFront | .pdLeft | .pdRight => 1200

/-- R4: the counts lie in the valid counts window. -/
def inWindow (counts : BitVec 12) : Bool := decide (100 ≤ counts.toNat) && decide (counts.toNat ≤ 3995)

/-- R4: the conversion of counts with a trim record, clamped to the input's range. -/
def Trim.convert (t : Trim) (i : Input) (counts : BitVec 12) : Int :=
  clamp (rangeLow i) (rangeHigh i) (rounded (((counts.toNat : Int) - t.offset) * t.gain) 4096)

/-- The timer left as it is when it runs, started otherwise. -/
def runOrStart (timer start : Option Nat) : Option Nat :=
  match timer with
  | some t => some t
  | none => start

/-- R5: an entry after an in-window sample that converted to `value`; `start` is the recovery timer started now. -/
def Entry.good (e : Entry) (value : Int) (start : Option Nat) : Entry :=
  match e.state with
  | .invalid | .valid | .stale => { e with state := .valid, value := value, timer := none, recovery := none }
  | .fault => { e with timer := runOrStart e.timer start, recovery := some value }

/-- R6: an entry after an out-of-window sample; `start` is the stale timer started now. -/
def Entry.bad (e : Entry) (start : Option Nat) : Entry :=
  match e.state with
  | .valid => { e with state := .stale, timer := start }
  | .stale => e
  | .invalid => { e with timer := runOrStart e.timer start }
  | .fault => { e with timer := none, recovery := none }

/-- R4 to R6: an entry after a sample. -/
def State.sampled (s : State) (i : Input) (counts : BitVec 12) : Entry :=
  let e := { s.entry i with counts := counts }
  if inWindow counts then e.good ((s.sfe.trims.get i).convert i counts) (s.after 1000)
  else e.bad (s.after (faultTime i))

/-- The state with Af replaced. -/
def State.setAf (s : State) (af : Int) : State := { s with rou := { s.rou with af := af } }

/-- R11: one step of the filter. -/
def filtered (af ay : Int) : Int := af + truncated (ay - af) 8

/-- R11: Af and the seed flag at an Ay sample, after the Ay entry has been updated. -/
def State.updateAf (s : State) : State :=
  match (s.entry .ay).state with
  | .valid =>
    if s.sfe.seed then { s with sfe := { s.sfe with seed := false } }.setAf (s.value .ay)
    else s.setAf (filtered s.rou.af (s.value .ay))
  | .stale | .invalid => s
  | .fault => s.setAf 0

/-- R10: what a sample of an input reaches: AAC for Pres, Af for Ay. -/
def State.sampleReaches (s : State) : Input → State
  | .pres => s.reservoirSample
  | .ay => s.updateAf
  | .pc | .bl | .br | .bf | .pdFront | .pdLeft | .pdRight => s

/-- R3, R4: a sample of an input completes while sampling runs. -/
def State.sampleCompleted (s : State) (i : Input) (counts : BitVec 12) : State :=
  if s.isRunning then (s.setEntry i (s.sampled i counts)).sampleReaches i else s

/-- R10: the channel of a delivered-pressure input. -/
def pdChannel : Input → Option Channel
  | .pdFront => some .front
  | .pdLeft => some .left
  | .pdRight => some .right
  | .pc | .pres | .bl | .br | .bf | .ay => none

/-- R7: an entry as a fault is declared. -/
def Entry.declared (e : Entry) : Entry :=
  { e with state := .fault, timer := none, recovery := none, faultCount := count16 e.faultCount }

/-- R7, R8: the FAULT record of an input. -/
def State.sensorRecord (s : State) (i : Input) (info : Nat) : Record :=
  { kind := .fault, subject := i.index, info := info, a := ((s.entry i).counts.toNat : Int), b := s.value i }

/-- R7, R10: what a declaration gives on: a Pd fault to MDU; an Ay fault sets Af to 0 (R11). -/
def State.faultReaches (s : State) (i : Input) : State :=
  match pdChannel i with
  | some c => s.addCause c .pdFault
  | none => if i = .ay then s.setAf 0 else s

/-- R7: a sensor fault is declared. -/
def State.declareFault (s : State) (i : Input) : State :=
  let t := s.setEntry i (s.entry i).declared
  let u := { t with health := { t.health with sensorFault := true } }.raise .fault
  (u.hand (t.sensorRecord i 0x0101)).faultReaches i

/-- R7: the stale timer of an entry, INVALID or STALE, is due. -/
def State.staleDue (s : State) (i : Input) : Bool :=
  match (s.entry i).state with
  | .invalid | .stale => s.isDue (s.entry i).timer
  | .valid | .fault => false

/-- R7: the stale timer of an input expires. -/
def State.staleTimerExpired (s : State) (i : Input) : State := if s.staleDue i then s.declareFault i else s

/-- R8: an entry as its fault clears. -/
def Entry.recovered (e : Entry) : Entry :=
  { e with state := .valid, value := e.recovery.getD e.value, timer := none, recovery := none }

/-- R8: a sensor fault clears; the clearing of an Ay fault sets the seed flag (R11). -/
def State.clearFault (s : State) (i : Input) : State :=
  let t := s.setEntry i (s.entry i).recovered
  let u := if i = .ay then { t with sfe := { t.sfe with seed := true } } else t
  u.hand (t.sensorRecord i 0x0102)

/-- R8: the recovery timer of an entry in FAULT is due. -/
def State.recoveryDue (s : State) (i : Input) : Bool :=
  match (s.entry i).state with
  | .fault => s.isDue (s.entry i).timer
  | .invalid | .valid | .stale => false

/-- R8: the recovery timer of an input expires. -/
def State.recoveryTimerExpired (s : State) (i : Input) : State := if s.recoveryDue i then s.clearFault i else s

/-- R12: the items of an entry. -/
def Entry.items (e : Entry) : List Item :=
  [.half e.state.code, .int e.value, .half e.counts.toNat, .half e.faultCount]

/-- R12: the body of the sensor section. -/
def State.sensorBody (s : State) : List Item := s.sfe.entries.toList.flatMap Entry.items

/-- R12: SFE rewrites its section. -/
def State.rewriteSensors (s : State) : State := s.rewrite .sensors s.sensorBody

/-- R12: the section timer expires and runs on. -/
def State.sectionTimerExpired (s : State) : State :=
  if s.isRunning && s.isDue s.sfe.sectionDue then
    { s with sfe := { s.sfe with sectionDue := s.after 10 } }.rewriteSensors
  else s

end Sys2Proof.Machine
end

