-- ==== Sys2Proof/Machine/Reset.lean ====
section
/-! DEFINITION. Machine/Reset.lean: the two resets (R14, R167), the calibration load and its completion (R13 to R15), and
the entries to UNCONFIGURED and SAFE (R165, R166). -/

namespace Sys2Proof.Machine

/-! ### Resets -/

/-- R17, R41, R56, R73, R94, R115, R135, R149, R157, R167, R176: every block as either reset leaves it, exchange memory
kept. The pins, the trim store, the queue and the counter of free values are no block's. -/
def State.blocksReset (s : State) : State :=
  { s with
    uptime := 0, load := { buffer := [], due := none }, sfe := .reset, ldu := .reset, lfc := .reset, wsu := .reset
    scu := .reset, mdu := .reset, rou := .reset, tyu := .reset, aac := .reset, xpt := .reset, port := .reset
    atc := .reset, health := .reset, jrw := .reset }

/-- R105: the indications of a channel after its monitors have reported. -/
def ChannelRecord.reported (r : ChannelRecord) (d : Drivers) : ChannelRecord :=
  { r with inlet := d.inlet, outlet := d.outlet }

/-- R105: each monitor reports its indication once as the calibration load begins. -/
def State.monitorsReport (s : State) : State :=
  { s with mdu := { s.mdu with
    channels := PerChannel.tabulate (fun c => (s.chan c).reported (s.pins.monitors.get c)) } }

/-- R14, R165, R176: the calibration load begins: the monitors report, XPT and JRW rewrite their sections (log 18). -/
def State.beginLoad (s : State) : State :=
  ({ s with load := .begun }.monitorsReport).rewriteDevice.rewriteJournal

/-- R167: power-on reset fills exchange memory with 0 and begins a calibration load. The inputs keep their levels
(log 9, 30). -/
def State.powerOn (s : State) : State := { s.blocksReset with mem := [] }.beginLoad

/-- R14: nRESET is asserted: a load and a port transaction in progress are abandoned, and the blocks are reset (log 7). -/
def State.assertReset (s : State) : State :=
  { s.blocksReset with pins := { s.pins with nreset := true } }

/-- R14: nRESET is released: the blocks are reset, exchange memory is kept, and a new load begins. -/
def State.releaseReset (s : State) : State :=
  { s.blocksReset with pins := { s.pins with nreset := false } }.beginLoad

/-! ### The calibration load -/

/-- R15: the sum of the words modulo 65536. -/
def sumWords (ws : List Half) : Nat := (ws.foldr (fun w n => w.toNat + n) 0) % 65536

/-- R15: the sum of a good load. -/
def goodSum : Nat := 0xA5C3

/-- R13: the trim record of an input in the words of the store. -/
def trimOf (ws : List Half) (i : Input) : Trim :=
  { offset := (ws.getD (2 * i.index) 0).toInt, gain := ((ws.getD (2 * i.index + 1) 0).toNat : Int) }

/-- R15: the load has read every word (log 27), and its sum stands at XPT. -/
def State.loadRead (s : State) : State :=
  { s with load := { buffer := s.store, due := none }, xpt := { s.xpt with loadSum := sumWords s.store } }

/-- R3, R12, R19, R58, R97, R117, R143: every periodic block starts its period. -/
def State.startPeriods (s : State) : State :=
  { s with
    sfe := { s.sfe with sectionDue := s.after 10 }
    ldu := { s.ldu with due := s.after 10 }
    wsu := { s.wsu with due := s.after 10 }
    mdu := { s.mdu with due := s.after s.mdu.group.period, periodEnd := some (s.tenths + s.mdu.group.period * 10) }
    rou := { s.rou with due := s.after 20 }
    tyu := { s.tyu with due := s.after 1000 } }

/-- R15: a good load copies the trims. -/
def State.copyTrims (s : State) : State :=
  { s with sfe := { s.sfe with trims := PerInput.tabulate (trimOf s.load.buffer) } }

/-- The state with the device state replaced. -/
def State.setDevice (s : State) (d : Device) : State := { s with xpt := { s.xpt with device := d } }

/-- R165: the entry to UNCONFIGURED: periods start, MDU adds the causes that stand (R105), a pending TYRE request is
handed to TYU, and XPT reports. -/
def State.enterUnconfigured (s : State) : State :=
  ((s.copyTrims.setDevice .unconfigured).startPeriods.addStandingIndications.offerTyre).reportDevice .start

/-! ### SAFE -/

/-- R72: the wheel section of SAFE: S and the count of INCLUDED wheel ends are shown 0 (log 17). -/
def State.safeWheelBody (s : State) : List Item :=
  { s with wsu := { s.wsu with travel := 0, includedCount := 0 } }.wheelBody

/-- R114: a channel as the modulator section of SAFE shows it, with NOT_ACTIVE as its one cause (log 17). -/
def ChannelRecord.shownInSafe (r : ChannelRecord) : ChannelRecord :=
  { r with causes := { inletOpen := false, inletShort := false, outletOpen := false, outletShort := false
                       pdFault := false, tracking := false, sourceNone := false, notActive := true } }

/-- R114: the modulator section of SAFE. -/
def State.safeModulatorBody (s : State) : List Item :=
  { s with mdu := { s.mdu with
    channels := PerChannel.tabulate (fun c => (s.chan c).shownInSafe) } }.modulatorBody

/-- R134: the rollover section of SAFE, with every age 0 (log 17). -/
def State.safeRolloverBody (s : State) : List Item :=
  { s with rou := { s.rou with stageEntry := s.ms } }.rolloverBody 0

/-- R166: each block writes its SAFE section once; the records stand as the reset left them. -/
def State.writeSafeSections (s : State) : State :=
  ((((((((s.rewriteSensors.rewriteDemand).rewriteLift).rewrite .wheels s.safeWheelBody).rewriteSlip).rewrite
    .modulator s.safeModulatorBody).rewrite .rollover s.safeRolloverBody).rewriteTyres).rewriteAir)

/-- R166: the entry to SAFE. -/
def State.enterSafe (s : State) : State :=
  (((s.setDevice .safe).raise .fault).reportDevice .start).writeSafeSections

/-- R15: the calibration load completes. -/
def State.loadCompleted (s : State) : State :=
  if s.isDue s.load.due then
    let t := s.loadRead
    if t.xpt.loadSum = goodSum then t.enterUnconfigured else t.enterSafe
  else s

end Sys2Proof.Machine
end

