-- ==== Sys2Proof/Machine/Commands.lean ====
section
/-! DEFINITION. Machine/Commands.lean: the meaning of each command, in the order of the opcode table: time passes (log 1),
then the block that the command reaches acts. Every meaning ends in a next state: R1, "a computation does not raise an
error". -/

namespace Sys2Proof.Machine

/-- What every meaning answers: the next state. -/
abbrev Meaning := Host.Outcome State Fault Refusal

/-- POWER_ON_RESET. R167: power-on reset. -/
def execPowerOnReset (dt : Nat) (s : State) : Meaning := .next ((s.elapse dt).powerOn)

/-- NRESET_ASSERTED. R14, R158: nRESET is asserted. -/
def execNresetAsserted (dt : Nat) (s : State) : Meaning := .next ((s.elapse dt).assertReset)

/-- NRESET_RELEASED. R14: nRESET is released. -/
def execNresetReleased (dt : Nat) (s : State) : Meaning := .next ((s.elapse dt).releaseReset)

/-- LOAD_COMPLETION. R15: the calibration load completes. -/
def execLoadCompletion (dt : Nat) (s : State) : Meaning := .next ((s.elapse dt).loadCompleted)

/-- SAMPLE_COMPLETION. R4: a sample completes. -/
def execSampleCompletion (dt : Nat) (input : Input) (counts : BitVec 12) (s : State) : Meaning :=
  .next ((s.elapse dt).sampleCompleted input counts)

/-- STALE_TIMER_EXPIRY. R7: a stale timer expires. -/
def execStaleTimerExpiry (dt : Nat) (input : Input) (s : State) : Meaning :=
  .next ((s.elapse dt).staleTimerExpired input)

/-- RECOVERY_TIMER_EXPIRY. R8: a recovery timer expires. -/
def execRecoveryTimerExpiry (dt : Nat) (input : Input) (s : State) : Meaning :=
  .next ((s.elapse dt).recoveryTimerExpired input)

/-- SFE_SECTION_TIMER_EXPIRY. R12: the section timer of SFE expires. -/
def execSfeSectionTimerExpiry (dt : Nat) (s : State) : Meaning := .next ((s.elapse dt).sectionTimerExpired)

/-- LDU_PERIOD_EXPIRY. R19: the LDU period expires. -/
def execLduPeriodExpiry (dt : Nat) (s : State) : Meaning := .next ((s.elapse dt).lduPeriodExpired)

/-- MOVE_TIMER_EXPIRY. R51: the move timer expires. -/
def execMoveTimerExpiry (dt : Nat) (s : State) : Meaning := .next ((s.elapse dt).moveTimerExpired)

/-- WINDOW_EXPIRY. R58: the measurement window expires. -/
def execWindowExpiry (dt : Nat) (circuits : PerWheel Circuit) (s : State) : Meaning :=
  .next ((s.elapse dt).windowExpired circuits)

/-- EDGE_ARRIVAL. R59: an edge arrives. -/
def execEdgeArrival (dt : Nat) (wheel : Wheel) (s : State) : Meaning := .next ((s.elapse dt).edgeArrived wheel)

/-- DUMP_OUTLET_OPENING. R103: the outlet opens for a dump, one dead band after the inlet closed. -/
def execDumpOutletOpening (dt : Nat) (channel : Channel) (s : State) : Meaning :=
  .next ((s.elapse dt).openWaiting channel true)

/-- HOLD_TIMER_EXPIRY. R84: a hold timer expires. -/
def execHoldTimerExpiry (dt : Nat) (channel : Channel) (s : State) : Meaning :=
  .next ((s.elapse dt).holdTimerExpired channel)

/-- STEP_TIMER_EXPIRY. R86: a step timer expires. -/
def execStepTimerExpiry (dt : Nat) (channel : Channel) (s : State) : Meaning :=
  .next ((s.elapse dt).stepTimerExpired channel)

/-- VALVE_PERIOD_EXPIRY. R97: the valve period expires. -/
def execValvePeriodExpiry (dt : Nat) (s : State) : Meaning := .next ((s.elapse dt).valvePeriodExpired)

/-- PULSE_OPENING. R101: a due pulse opens at its opening time. -/
def execPulseOpening (dt : Nat) (channel : Channel) (s : State) : Meaning :=
  .next ((s.elapse dt).openWaiting channel false)

/-- PULSE_END. R102: a pulse ends. -/
def execPulseEnd (dt : Nat) (channel : Channel) (s : State) : Meaning := .next ((s.elapse dt).pulseEnded channel)

/-- DRIVER_REPORT. R105: a valve driver monitor reports. -/
def execDriverReport (dt : Nat) (channel : Channel) (valve : Valve) (indication : Indication) (s : State) : Meaning :=
  .next ((s.elapse dt).driverReported channel valve indication)

/-- EVALUATION_EXPIRY. R117: the evaluation period expires. -/
def execEvaluationExpiry (dt : Nat) (s : State) : Meaning := .next ((s.elapse dt).evaluationExpired)

/-- CHARACTER_ARRIVAL. R136, R137: a character arrives. -/
def execCharacterArrival (dt : Nat) (data : Byte) (parityGood : Bool) (stopGood : Bool) (s : State) : Meaning :=
  .next ((s.elapse dt).characterArrived data parityGood stopGood)

/-- GAP_TIMER_EXPIRY. R137: the gap timer expires. -/
def execGapTimerExpiry (dt : Nat) (s : State) : Meaning := .next ((s.elapse dt).gapTimerExpired)

/-- CD_DEASSERTED. R137: CD is deasserted. -/
def execCdDeasserted (dt : Nat) (s : State) : Meaning := .next ((s.elapse dt).carrierLost)

/-- SILENCE_SCAN. R143: the scan period expires. -/
def execSilenceScan (dt : Nat) (s : State) : Meaning := .next ((s.elapse dt).scanExpired)

/-- READ. R158: a READ transaction or a part of one; the command byte it sends says that it reads. -/
def execRead (dt : Nat) (select : Bool) (bytes : List Byte) (ends : Bool) (s : State) : Meaning :=
  .next ((s.elapse dt).portPart select bytes ends)

/-- WRITE. R158: a WRITE transaction or a part of one; the command byte it sends says that it writes. -/
def execWrite (dt : Nat) (select : Bool) (bytes : List Byte) (ends : Bool) (s : State) : Meaning :=
  .next ((s.elapse dt).portPart select bytes ends)

/-- HEALTH_READ. R172: a read of HEALTH. -/
def execHealthRead (dt : Nat) (s : State) : Meaning := .next ((s.elapse dt).readRegister .health)

/-- ATTN_POLL. R169: a read of ATTN_POLL. -/
def execAttnPoll (dt : Nat) (s : State) : Meaning := .next ((s.elapse dt).readRegister .attnPoll)

/-- ATTN_END. R170: a write of ATTN_END. -/
def execAttnEnd (dt : Nat) (value : Half) (s : State) : Meaning := .next ((s.elapse dt).writeRegister .attnEnd value)

/-- ATTN_MASK_WRITE. R171: a write of ATTN_MASK. -/
def execAttnMaskWrite (dt : Nat) (value : Half) (s : State) : Meaning :=
  .next ((s.elapse dt).writeRegister .attnMask value)

/-- TAKE_VEHICLE. R163: a write of TAKE with bit 0. -/
def execTakeVehicle (dt : Nat) (s : State) : Meaning := .next ((s.elapse dt).writeRequest .vehicle)

/-- TAKE_LOAD. R163: a write of TAKE with bit 1. -/
def execTakeLoad (dt : Nat) (s : State) : Meaning := .next ((s.elapse dt).writeRequest .load)

/-- TAKE_SLIP. R163: a write of TAKE with bit 2. -/
def execTakeSlip (dt : Nat) (s : State) : Meaning := .next ((s.elapse dt).writeRequest .slip)

/-- TAKE_VALVE. R163: a write of TAKE with bit 3. -/
def execTakeValve (dt : Nat) (s : State) : Meaning := .next ((s.elapse dt).writeRequest .valve)

/-- TAKE_ROLL. R163: a write of TAKE with bit 4. -/
def execTakeRoll (dt : Nat) (s : State) : Meaning := .next ((s.elapse dt).writeRequest .roll)

/-- TAKE_TYRE. R163, R147: a write of TAKE with bit 5. -/
def execTakeTyre (dt : Nat) (s : State) : Meaning := .next ((s.elapse dt).writeRequest .tyre)

/-- TAKE_AIR. R163: a write of TAKE with bit 6. -/
def execTakeAir (dt : Nat) (s : State) : Meaning := .next ((s.elapse dt).writeRequest .air)

/-- TAKE_REPORT. R163, R175: a write of TAKE with bit 7. -/
def execTakeReport (dt : Nat) (s : State) : Meaning := .next ((s.elapse dt).writeRequest .report)

/-- TAKE_CLEAR_FAULTS. R163, R111: a write of TAKE with bit 8. -/
def execTakeClearFaults (dt : Nat) (s : State) : Meaning := .next ((s.elapse dt).writeRequest .clearFaults)

/-- REGISTER_WRITE_IGNORED. R159, R171: a write of a register whose writes are ignored. -/
def execRegisterWriteIgnored (dt : Nat) (register : ReadOnlyRegister) (value : Half) (s : State) : Meaning :=
  .next ((s.elapse dt).writeRegister (namedRegister register) value)

/-- CD_ASSERTED. R136: CD is asserted. -/
def execCdAsserted (dt : Nat) (s : State) : Meaning := .next ((s.elapse dt).carrierFound)

end Sys2Proof.Machine
end

