-- ==== Sys2Proof/Machine/Dispatch.lean ====
section
/-! DEFINITION. Machine/Dispatch.lean: one arm for each command. -/

namespace Sys2Proof.Machine

def exec (i : Instr) (s : State) : Host.Outcome State Fault Refusal :=
  match i with
  | .powerOnReset dt => Sys2Proof.Machine.execPowerOnReset dt s
  | .nresetAsserted dt => Sys2Proof.Machine.execNresetAsserted dt s
  | .nresetReleased dt => Sys2Proof.Machine.execNresetReleased dt s
  | .loadCompletion dt => Sys2Proof.Machine.execLoadCompletion dt s
  | .sampleCompletion dt input counts => Sys2Proof.Machine.execSampleCompletion dt input counts s
  | .staleTimerExpiry dt input => Sys2Proof.Machine.execStaleTimerExpiry dt input s
  | .recoveryTimerExpiry dt input => Sys2Proof.Machine.execRecoveryTimerExpiry dt input s
  | .sfeSectionTimerExpiry dt => Sys2Proof.Machine.execSfeSectionTimerExpiry dt s
  | .lduPeriodExpiry dt => Sys2Proof.Machine.execLduPeriodExpiry dt s
  | .moveTimerExpiry dt => Sys2Proof.Machine.execMoveTimerExpiry dt s
  | .windowExpiry dt circuits => Sys2Proof.Machine.execWindowExpiry dt circuits s
  | .edgeArrival dt wheel => Sys2Proof.Machine.execEdgeArrival dt wheel s
  | .dumpOutletOpening dt channel => Sys2Proof.Machine.execDumpOutletOpening dt channel s
  | .holdTimerExpiry dt channel => Sys2Proof.Machine.execHoldTimerExpiry dt channel s
  | .stepTimerExpiry dt channel => Sys2Proof.Machine.execStepTimerExpiry dt channel s
  | .valvePeriodExpiry dt => Sys2Proof.Machine.execValvePeriodExpiry dt s
  | .pulseOpening dt channel => Sys2Proof.Machine.execPulseOpening dt channel s
  | .pulseEnd dt channel => Sys2Proof.Machine.execPulseEnd dt channel s
  | .driverReport dt channel valve indication => Sys2Proof.Machine.execDriverReport dt channel valve indication s
  | .evaluationExpiry dt => Sys2Proof.Machine.execEvaluationExpiry dt s
  | .characterArrival dt data parityGood stopGood => Sys2Proof.Machine.execCharacterArrival dt data parityGood stopGood s
  | .gapTimerExpiry dt => Sys2Proof.Machine.execGapTimerExpiry dt s
  | .cdDeasserted dt => Sys2Proof.Machine.execCdDeasserted dt s
  | .silenceScan dt => Sys2Proof.Machine.execSilenceScan dt s
  | .read dt select bytes ends => Sys2Proof.Machine.execRead dt select bytes ends s
  | .write dt select bytes ends => Sys2Proof.Machine.execWrite dt select bytes ends s
  | .healthRead dt => Sys2Proof.Machine.execHealthRead dt s
  | .attnPoll dt => Sys2Proof.Machine.execAttnPoll dt s
  | .attnEnd dt value => Sys2Proof.Machine.execAttnEnd dt value s
  | .attnMaskWrite dt value => Sys2Proof.Machine.execAttnMaskWrite dt value s
  | .takeVehicle dt => Sys2Proof.Machine.execTakeVehicle dt s
  | .takeLoad dt => Sys2Proof.Machine.execTakeLoad dt s
  | .takeSlip dt => Sys2Proof.Machine.execTakeSlip dt s
  | .takeValve dt => Sys2Proof.Machine.execTakeValve dt s
  | .takeRoll dt => Sys2Proof.Machine.execTakeRoll dt s
  | .takeTyre dt => Sys2Proof.Machine.execTakeTyre dt s
  | .takeAir dt => Sys2Proof.Machine.execTakeAir dt s
  | .takeReport dt => Sys2Proof.Machine.execTakeReport dt s
  | .takeClearFaults dt => Sys2Proof.Machine.execTakeClearFaults dt s
  | .registerWriteIgnored dt register value => Sys2Proof.Machine.execRegisterWriteIgnored dt register value s
  | .cdAsserted dt => Sys2Proof.Machine.execCdAsserted dt s

end Sys2Proof.Machine
end

