-- ==== Sys2Proof/Safety.lean ====
section
/-! DEFINITION. Safety.lean: the laws that the manual says the part keeps, as predicates on its state. Each is stated in
the manual's own terms, not in those of the operations that keep it. -/

namespace Sys2Proof.Machine

/-! ### The port and exchange memory -/

/-- R158, R159: the bytes a transaction has collected are aimed at host regions. -/
def State.collectsHostBytes (s : State) : Prop :=
  ∀ t, s.port.txn = some t → ∀ c ∈ t.collected, c.1 < 0x0C00 ∨ (0x1800 ≤ c.1 ∧ c.1 < 0x3FF0)

/-- Exchange memory is in its canonical form, and what the port will still commit keeps it so. -/
def State.memoryCanonical (s : State) : Prop := Memory.wf s.mem = true ∧ s.collectsHostBytes

/-! ### Attention -/

/-- R171: some level is pending, unmasked and lower-numbered than every level in service. -/
def Atc.someLevelWaits (a : Atc) : Prop :=
  ∃ l : Level, a.pending.get l = true ∧ a.mask.get l = false ∧
    ∀ k : Level, a.inService.get k = true → l.index < k.index

/-- R171: nATTN is asserted exactly when some unmasked pending level has higher priority than every in-service level. -/
def State.attentionLaw (s : State) : Prop := s.atc.nattn = true ↔ s.atc.someLevelWaits

/-- R168: a level source's level that is not in service is pending exactly while its condition holds. -/
def State.levelSourceLaw (s : State) : Prop :=
  (s.atc.inService.journal = false → s.atc.pending.journal = s.atc.journal) ∧
  (s.atc.inService.supply = false → s.atc.pending.supply = s.atc.supply) ∧
  (s.atc.inService.demand = false → s.atc.pending.demand = s.atc.demand)

/-- Table 11.1: what the conditions of the three level sources are. -/
def State.conditionLaw (s : State) : Prop :=
  (s.atc.journal = true ↔ 0 < s.jrw.occupied) ∧
  s.atc.supply = s.aac.critical ∧
  (s.atc.demand = true ↔ s.ldu.demand.source ≠ .electric)

/-! ### The journal -/

/-- R173, R174: the journal holds at most 64 unreleased records, and occupied, free and the warning flag follow from W,
the valid release count and the warning level. -/
def State.journalLaw (s : State) : Prop :=
  s.jrw.occupied = (s.jrw.w - s.jrw.rel).toNat ∧ s.jrw.occupied ≤ 64 ∧ s.jrw.free = 64 - s.jrw.occupied ∧
  (s.jrw.warning = true ↔ s.jrw.free ≤ s.jrw.group.warningLevel)

/-! ### The modulator drive and slip control -/

/-- R96: the LEFT and RIGHT channels are either both in BACKUP or both in REGULATE. -/
def State.rearPairLaw (s : State) : Prop := (s.chan .left).mode = (s.chan .right).mode

/-- R95, R104: a pulse end is present while a valve is energised; a channel in BACKUP has both valves de-energised,
and no opening waits on it. -/
def State.backupValvesLaw (s : State) : Prop :=
  ∀ c, ((s.chan c).pulseEnd.isSome = true ↔ (s.chan c).phase ≠ .closed) ∧
    ((s.chan c).mode = .backup → (s.chan c).phase = .closed ∧ (s.chan c).opening = none)

/-- R95, R96: the cause set of a channel in REGULATE is empty. -/
def State.regulateLaw (s : State) : Prop := ∀ c k, (s.chan c).mode = .regulate → (s.chan c).causes.get k = false

/-- R108: NOT_ACTIVE stands in every cause set unless the device state is ACTIVE, and a load runs in START alone. -/
def State.notActiveLaw (s : State) : Prop :=
  (s.xpt.device ≠ .active → ∀ c, (s.chan c).causes.notActive = true) ∧
  (s.load.due.isSome = true → s.xpt.device = .start)

/-- R77, R78: a channel in BACKUP is OFF at SCU. -/
def State.backupSlipLaw (s : State) : Prop := ∀ c, (s.chan c).mode = .backup → (s.slip c).state = .off

/-- The laws of the two modes together. -/
def State.modeLaw (s : State) : Prop :=
  s.rearPairLaw ∧ s.backupValvesLaw ∧ s.regulateLaw ∧ s.notActiveLaw ∧ s.backupSlipLaw

/-- R74, R80, R83: which fields of a slip record its state carries. -/
def SlipRecord.law (r : SlipRecord) : Prop :=
  (r.holdTimer.isSome = true ↔ r.state = .hold) ∧ (r.stepTimer.isSome = true ↔ r.state = .rebuild) ∧
  (r.episodeStart.isSome = true ↔ r.state.inEpisode = true) ∧ (r.minPd.isSome = true ↔ r.state.inEpisode = true) ∧
  (r.state = .dump → r.pSlip = 0)

/-- The slip record law for every channel. -/
def State.slipLaw (s : State) : Prop := ∀ c, (s.slip c).law

/-! ### The lift axle -/

/-- R42: the lift valve is energised in RAISING and RAISED alone. -/
def State.liftValveLaw (s : State) : Prop := s.lfc.valve = true ↔ (s.lfc.state = .raising ∨ s.lfc.state = .raised)

/-- R49: the lift state is never RAISING or RAISED while the rollover stage is BRAKE or HOLDOFF. -/
def State.liftStageLaw (s : State) : Prop :=
  (s.rou.stage = .brake ∨ s.rou.stage = .holdoff) → s.lfc.state ≠ .raising ∧ s.lfc.state ≠ .raised

/-- R34, R65: while the lift axle is RAISING or RAISED the FRONT target is 0 and A1L and A1R are EXCLUDED. -/
def State.liftedAxleLaw (s : State) : Prop :=
  (s.lfc.state = .raising ∨ s.lfc.state = .raised) →
    s.ldu.front.pAxle = 0 ∧ s.wsu.wheels.a1l.included = false ∧ s.wsu.wheels.a1r.included = false

/-- The laws of the lift axle together. -/
def State.liftLaw (s : State) : Prop := s.liftValveLaw ∧ s.liftStageLaw ∧ s.liftedAxleLaw

/-! ### Rollover -/

/-- R116, R124, R130: a test pulse is in flight in TEST alone, on the rear channel opposite the outer side, and no
request stands in QUIET and WATCH. -/
def State.rolloverLaw (s : State) : Prop :=
  (s.rou.stage = .test → s.rou.testChannel = some s.rou.outer.opposite) ∧
  (s.rou.testChannel.isSome = true ↔ s.rou.stage = .test) ∧
  (s.rou.testStart.isSome = true ↔ s.rou.stage = .test) ∧
  (s.rou.testSign.isSome = true ↔ s.rou.stage = .test) ∧
  ((s.rou.stage = .quiet ∨ s.rou.stage = .watch) →
    s.rou.pRoll.front = 0 ∧ s.rou.pRoll.left = 0 ∧ s.rou.pRoll.right = 0)

/-! ### The air account -/

/-- R152: each allowance's current count lies between 0 and its base count. -/
def State.allowanceLaw (s : State) : Prop :=
  0 ≤ s.aac.test.current ∧ s.aac.test.current ≤ s.aac.group.testBase ∧
  0 ≤ s.aac.lift.current ∧ s.aac.lift.current ≤ s.aac.group.liftBase

/-! ### Targets -/

/-- R28, R35, R36: the ranges of the settings that the target arithmetic rests on; no target without a VEHICLE group. -/
def State.targetSettings (s : State) : Prop :=
  (∀ v, s.ldu.vehicle = some v → 0 ≤ v.front.e ∧ v.front.e ≤ 4096 ∧ 0 ≤ v.rear.e ∧ v.rear.e ≤ 4096) ∧
  (s.ldu.vehicle = none → s.ldu.front.pAxle = 0 ∧ s.ldu.rear.pAxle = 0) ∧
  0 ≤ s.ldu.load.knee ∧ s.ldu.load.knee ≤ 100 ∧ 300 ≤ s.ldu.load.pmax ∧ 0 ≤ s.ldu.demand.d

/-- R33: an axle target pressure never exceeds the effective demand or Pmax, and is not negative. -/
def State.targetLaw (s : State) : Prop :=
  s.targetSettings ∧
  0 ≤ s.ldu.front.pAxle ∧ s.ldu.front.pAxle ≤ s.ldu.demand.d ∧ s.ldu.front.pAxle ≤ s.ldu.load.pmax ∧
  0 ≤ s.ldu.rear.pAxle ∧ s.ldu.rear.pAxle ≤ s.ldu.demand.d ∧ s.ldu.rear.pAxle ≤ s.ldu.load.pmax

/-! ### Tyres -/

/-- R139: among occupied slots no two share a sensor ID, and no two share a wheel end and position. -/
def State.rosterLaw (s : State) : Prop :=
  s.tyu.slots.length = 12 ∧
  ∀ i j, i < 12 → j < 12 → i ≠ j → (s.slot i).occupied = true → (s.slot j).occupied = true →
    (s.slot i).id ≠ (s.slot j).id ∧ ((s.slot i).wheel, (s.slot i).position) ≠ ((s.slot j).wheel, (s.slot j).position)

/-- R136: a telegram is open exactly while the gap timer runs, and the buffer of an open telegram holds one to eight
characters. -/
def State.receiverLaw (s : State) : Prop :=
  (s.tyu.isOpen = true ↔ s.tyu.gapTimer.isSome = true) ∧
  (s.tyu.isOpen = true → 0 < s.tyu.buffer.length ∧ s.tyu.buffer.length ≤ 8) ∧
  (s.tyu.isOpen = false → s.tyu.buffer = [])

/-! ### Wheels -/

/-- R57, R60, R66: a wheel end is INCLUDED exactly when its exclusion set is empty; a faulted one shows no speed, and one
that is NOT_FITTED has the cleared values. -/
def WheelEnd.law (r : WheelEnd) : Prop :=
  (r.included = true ↔ r.excl = { notFitted := false, sensorFault := false, lifted := false, flatTyre := false }) ∧
  (r.sensor = .fault → r.v = 0 ∧ r.vc = 0 ∧ r.aw = 0 ∧ r.prevVc = none) ∧
  (r.faultKind.isSome = true ↔ r.sensor = .fault) ∧
  (r.fitted = false → r.v = 0 ∧ r.c = 0 ∧ r.vc = 0 ∧ r.aw = 0 ∧ r.slip = 0 ∧ r.edges = 0 ∧ r.firstEdge = none ∧
    r.lastEdge = none ∧ r.prevVc = none ∧ r.zeroStart = none ∧ r.recoveryStart = none ∧ r.sensor = .ok)

/-- The wheel end law for every wheel end. -/
def State.wheelLaw (s : State) : Prop := ∀ w, (s.wheel w).law

/-! ### What a statement says about a step's result -/

/-- A timer that is running and due at a time in microseconds (log 3). -/
def dueAt (timer : Option Nat) (now : Nat) : Prop := ∃ d, timer = some d ∧ d ≤ now

/-- Every byte of exchange memory outside the named sections reads as before; with the journal's section the journal
itself is named too. -/
def sameOutside (sections : List Section) (s t : State) : Prop :=
  ∀ x, (∀ sec ∈ sections, x < sec.base ∨ sec.base + sec.size ≤ x) →
    (Section.journal ∈ sections → x < 0x1400 ∨ 0x1800 ≤ x) → Memory.byte t.mem x = Memory.byte s.mem x

/-- Memory and the journal's counts are what handing one record alone makes of them (R173). -/
def handsOne (s t : State) (r : Record) : Prop := t.mem = (s.hand r).mem ∧ t.jrw = (s.hand r).jrw

/-- R173: the journal, its counts and its slots, is what handing these records alone, in this order, makes of it. -/
def recorded (s t : State) (records : List Record) : Prop :=
  let u := records.foldl State.hand s
  t.jrw = u.jrw ∧ ∀ x, 0x1400 ≤ x → Memory.byte t.mem x = Memory.byte u.mem x

/-! ### The records of an event, by the tables of the rules

Each is the list of the records that a rule has its block hand as `s` becomes `t` in one event. -/

/-- R164: the TAKE record of a request, with the report that stands after the take. -/
def State.reportRecord (t : State) (r : Request) : Record :=
  { kind := .take, subject := r.index, info := (t.xpt.reports.get r).result.code, a := (t.xpt.reports.get r).detail
    b := (t.xpt.reports.get r).count }

/-- R164: the TAKE record of a request that has been taken. -/
def takenRecords (s t : State) (r : Request) : List Record :=
  if s.isPending r = true ∧ t.isPending r = false then [t.reportRecord r] else []

/-- R22: the record of a change of freshness. (NO_CHANGE, 3, is never the cause of one in a run.) -/
def freshnessRecords (s t : State) : List Record :=
  let d := t.ldu.demand
  let source : Int := match d.source with
    | .electric => 0
    | .pneumatic => 1
    | .none => 2
  match s.ldu.demand.freshness, d.freshness with
  | .fresh, .stale cause =>
    let info := match cause with
      | .timeout => 1
      | .linkDown => 2
      | .noChange => 3
    [{ kind := .demandStale, subject := 0, info := info, a := source, b := d.de }]
  | .stale _, .fresh => [{ kind := .demandFresh, subject := 0, info := 0, a := source, b := d.de }]
  | _, _ => []

/-- R25, R26: the record of a mismatch declared or cleared. -/
def mismatchRecords (s t : State) : List Record :=
  let d := t.ldu.demand
  match s.ldu.demand.mismatch, d.mismatch with
  | false, true => [{ kind := .mismatch, subject := 0, info := 1, a := d.de, b := s.value .pc }]
  | true, false =>
    [{ kind := .mismatch, subject := 0, info := 0, a := d.de, b := if s.valid .pc = true then s.value .pc else 0 }]
  | _, _ => []

/-- R88: the SLIP_EPISODE record of a channel whose episode, if one is open, closes for a reason (AUTOSTOP 0, RELEASE 1,
LOW_SPEED 2, NO_WHEEL 3, BACKUP 4). -/
def closedRecords (s t : State) (c : Channel) (reason : Nat) : List Record :=
  let r := s.slip c
  if r.state = .dump ∨ r.state = .hold ∨ r.state = .rebuild then
    [{ kind := .slipEpisode, subject := c.index, info := min r.dumps 255 * 256 + reason, a := t.ageOf r.episodeStart
       b := r.lock * 65536 + r.minPd.getD 0 }]
  else []

/-- R88, R108, R110: the records of a latched cause added to a channel: a unit in REGULATE enters BACKUP and its open
episodes close, and the FAULT record tells the mode before. -/
def causeRecords (s t : State) (c : Channel) (cause : Cause) : List Record :=
  let info := match cause with
    | .inletOpen => 0x0301
    | .inletShort => 0x0302
    | .outletOpen => 0x0303
    | .outletShort => 0x0304
    | .pdFault => 0x0305
    | .tracking => 0x0306
    | .sourceNone => 0
    | .notActive => 0
  let fault := fun (before : Int) => ({ kind := .fault, subject := c.index, info := info, a := before, b := s.pd c } : Record)
  match s.unitMode (Channel.unit c) with
  | .regulate => (Channel.unit c).channels.flatMap (fun k => closedRecords s t k 4) ++ [fault 0]
  | .backup => [fault 1]

/-- R111: every latched cause of a channel is gone. -/
abbrev State.faultsGone (s : State) (c : Channel) : Prop :=
  let k := (s.chan c).causes
  (k.inletOpen = true ∨ k.inletShort = true → (s.chan c).inlet = .ok) ∧
  (k.outletOpen = true ∨ k.outletShort = true → (s.chan c).outlet = .ok) ∧
  (k.pdFault = true → s.valid (Channel.pd c) = true)

/-- R111: the records of a CLEAR_FAULTS that is carried out: of each channel of a unit so cleared, and the take's. -/
def clearedRecords (s t : State) : List Record :=
  let cleared := fun (u : DriveUnit) =>
    if s.unitMode u = .backup ∧ (∃ c ∈ u.channels, (s.chan c).causes.hasLatched = true) ∧ ∀ c ∈ u.channels, s.faultsGone c
    then u.channels.map (fun c => ({
      kind := .fault, subject := c.index, info := 0x0310, a := (s.chan c).faultCount, b := s.pd c } : Record))
    else []
  if s.isPending .clearFaults = true then cleared .front ++ cleared .rear ++ [t.reportRecord .clearFaults] else []

/-- R52: the LIFT_MOVE record of the move that ends, direction RAISE 1 and LOWER 2, outcome COMPLETED 0, TIMEOUT 1 and
ABORTED 2. -/
def moveRecord (s t : State) (direction outcome : Nat) : Record :=
  { kind := .liftMove, subject := 0, info := direction * 256 + outcome, a := t.ageOf s.lfc.moveStart
    b := s.lfc.moveCause.code }

/-- R52, R53: the record of a move that an LDU period ends; the adoption of a FIXED axle ends one without a record. -/
def liftRecords (s t : State) : List Record :=
  if t.axleFixed = true then []
  else match s.lfc.state, t.lfc.state with
    | .raising, .lowering => [moveRecord s t 1 2]
    | .raising, .raised => [moveRecord s t 1 0]
    | .lowering, .lowered => [moveRecord s t 2 0]
    | _, _ => []

/-- R153: the ALLOWANCE record of a grant that has spent the last count. -/
def spentRecords (s t : State) (n : AllowanceName) : List Record :=
  if (s.aac.get n).current = 1 ∧ (t.aac.get n).current = 0 then
    [{ kind := .allowance, subject := n.index, info := 1, a := 0, b := s.aac.base n * 65536 + s.value .pres }]
  else []

/-- R19: the records of an LDU period: the episodes that a source becoming NONE closes (R78, R108), freshness and
mismatch, the VEHICLE take with its DEVICE_STATE record (R165), the LOAD take, the move that ends, the LIFT allowance. -/
def lduRecords (s t : State) : List Record :=
  (if s.ldu.demand.source ≠ .none ∧ t.ldu.demand.source = .none then
    Channel.all.flatMap (fun c => if s.unitMode (Channel.unit c) = .regulate then closedRecords s t c 4 else [])
  else []) ++
  freshnessRecords s t ++ mismatchRecords s t ++ takenRecords s t .vehicle ++
  (if s.xpt.device = .unconfigured ∧ t.xpt.device = .active then
    [{ kind := .deviceState, subject := 0, info := 0x0102, a := s.xpt.loadSum, b := 0 }]
  else []) ++
  takenRecords s t .load ++ liftRecords s t ++ spentRecords s t .lift

/-- R66 to R68: the records of the wheel sensors at a window whose raw speeds are these: the open circuits of step 3,
then what step 8 declares or clears; a wheel end that leaves FITTED has none (R60). -/
def wheelRecords (s t : State) (circuits : PerWheel Circuit) (speed : Wheel → Int) : List Record :=
  let fault := fun (w : Wheel) (info : Nat) (a b : Int) =>
    ({ kind := .fault, subject := w.index, info := info, a := a, b := b } : Record)
  let opens := fun (w : Wheel) =>
    (t.wheel w).fitted = true ∧ circuits.get w = .opened ∧ (s.wheel w).sensor = .ok
  Wheel.all.flatMap (fun w => if opens w then [fault w 0x0201 (speed w) s.wsu.vref] else []) ++
  Wheel.all.flatMap (fun w => match (s.wheel w).sensor, (t.wheel w).sensor with
    | .ok, .fault => if opens w then [] else [fault w 0x0202 0 t.wsu.vref]
    | .fault, .ok =>
      if (s.wheel w).fitted = true ∧ (t.wheel w).fitted = false then [] else [fault w 0x0203 (speed w) t.wsu.vref]
    | _, _ => [])

/-- R77 to R79, R88: the record of a channel whose episode a window closes: without a wheel, in BACKUP, released with D
at 0 or at low speed. -/
def windowCloses (s t : State) (c : Channel) : List Record :=
  if (t.slip c).state = .pass ∨ (t.slip c).state = .off then
    closedRecords s t c (if (t.slip c).wheel = none then 3 else if (s.chan c).mode = .backup then 4
      else if s.ldu.demand.d = 0 then 1 else 2)
  else []

/-- R132: a ROLL_STAGE record: the outer side, Af and the threshold as they stand after the event, the unavailable flag
and the cause given. -/
def State.stageChange (t : State) (info : Nat) (flag : Bool) (cause : Int) : Record :=
  { kind := .rollStage
    subject := match t.rou.outer with
      | .left => 1
      | .right => 2
    info := info, a := t.rou.af, b := t.rou.aThr * 65536 + (if flag then 256 else 0) + cause }

/-- R153 to R155: an ALLOWANCE record of a fill, info 2 at an auto-reload and 3 at an AIR take. -/
def State.fillRecord (t : State) (n : AllowanceName) (info : Nat) : Record :=
  { kind := .allowance, subject := n.index, info := info, a := t.aac.base n
    b := t.aac.base n * 65536 + if t.valid .pres = true then t.value .pres else 0 }

/-- R151: the record of a change of the critical flag. -/
def levelRecords (s t : State) : List Record :=
  if t.aac.critical = s.aac.critical then []
  else [{ kind := .airLevel, subject := 0, info := if t.aac.critical = true then 1 else 0, a := t.value .pres
          b := t.aac.group.critical }]

/-! ### What a section shows -/

/-- R161: a section shows these items: its two stamp words hold the head stamp, and the bytes between them are those of
the items from offset 4 on, and 0 behind them. -/
def State.shows (s : State) (sec : Section) (items : List Item) : Prop :=
  Memory.word s.mem sec.base = s.headStamp sec ∧ Memory.word s.mem (sec.base + sec.size - 4) = s.headStamp sec ∧
  ∀ k, k < sec.size - 8 → Memory.byte s.mem (sec.base + 4 + k) = (packItems 4 items).getD k 0

/-- R161: a section has been rewritten once and shows these items. -/
def rewrote (s t : State) (sec : Section) (items : List Item) : Prop :=
  t.shows sec items ∧ t.headStamp sec = (s.headStamp sec + 1) % 65536

/-- R163, R164: a pending request has been taken: no longer pending, its verdict reported, TAKE pending, and the device
section as the reports now stand. -/
def taken (s t : State) (r : Request) (verdict : Outcome) : Prop :=
  t.isPending r = false ∧ t.atc.pending.take = true ∧ t.xpt.reports.get r = (s.xpt.reports.get r).after verdict ∧
  t.shows .device t.deviceBody

/-- R38: a verdict on the `count` words of the setting table at `base` and its fields, in the numbers of the group's own
table: `ranges` lists the clamped fields with their bounds, every other field stands as written, and `wrong` says at which
index a refusal check on the clamped fields fails. REFUSED names the lowest such index; without one the group is accepted,
with the number of fields that clamping changed when there are any. -/
def State.judgedBy (s : State) (base count : Nat) (ranges : List (Nat × Nat × Nat)) (wrong : Nat → Prop)
    (verdict : Outcome × List Nat) : Prop :=
  let word := fun (k : Nat) => Memory.word s.mem (base + 4 * k)
  let changed := ((List.range count).filter (fun k => decide (field verdict.2 k ≠ word k))).length
  verdict.2.length = count ∧
  (∀ r ∈ ranges, field verdict.2 r.1 = max r.2.1 (min r.2.2 (word r.1))) ∧
  (∀ k, k < count → (∀ r ∈ ranges, r.1 ≠ k) → field verdict.2 k = word k) ∧
  (∀ i, wrong i → (∀ j, j < i → ¬wrong j) → verdict.1 = .refused i) ∧
  ((∀ i, ¬wrong i) → verdict.1 = if changed = 0 then .accepted else .acceptedClamped changed)

/-- R61, R62: the raw speed of a wheel end in order at a window that ends now: by tooth timing from two or more edges,
drawn down from the last edge without (no time since it gives a free bound, log 20). -/
def WheelEnd.hasSpeed (r : WheelEnd) (travel : Int) (now : Time) (v : Int) : Prop :=
  (∀ first last, 2 ≤ r.edges → r.firstEdge = some first → r.lastEdge = some last →
    let tooth : Int := Int.tdiv ((last - first).toNat : Int) (r.edges - 1)
    v = if tooth = 0 then 4000 else min 4000 (Int.tdiv (travel * 100) tooth)) ∧
  (r.edges < 2 → r.lastEdge = none → v = 0) ∧
  ∀ last, r.edges < 2 → r.lastEdge = some last →
    let since : Int := ((now - last).toNat : Int)
    (200000 ≤ since → v = 0) ∧
    (0 < since → since < 200000 → v = min r.v (Int.tdiv (travel * 100) since)) ∧
    (since = 0 → ∃ bound : Nat, v = min r.v bound)

/-- R69: the candidate of the wheel ends that count: the second highest of their speeds, the one's own when there is one,
0 when there is none. -/
def isCandidate (counts : Wheel → Prop) (vc : Wheel → Int) (candidate : Int) : Prop :=
  ((∀ w, ¬counts w) → candidate = 0) ∧
  (∀ a, counts a → (∀ w, w ≠ a → ¬counts w) → candidate = vc a) ∧
  ∀ a b, a ≠ b → counts a → counts b → ∃ x y, x ≠ y ∧ counts x ∧ counts y ∧ vc y ≤ vc x ∧ candidate = vc y ∧
    ∀ w, w ≠ x → counts w → vc w ≤ candidate

/-- R103: what a DUMP entry handed to MDU at a time in 0.1 ms makes of a channel's record: an outlet already open stays
open to the end of the period less the dead band; otherwise an open inlet is cut, and the outlet opens, at once or a dead
band after the inlet closed, when at least the minimum width is left, until that end. -/
def dumpHandedOver (s t : State) (c : Channel) (now : Int) : Prop :=
  let r := s.chan c
  let band := s.mdu.group.deadBand
  let finish := s.mdu.periodEnd.getD 0 - band
  (r.phase = .energised .outlet → t.chan c = { r with pulseEnd := some (max (r.pulseEnd.getD finish) finish) }) ∧
  (r.phase ≠ .energised .outlet →
    let cut : ChannelRecord := if r.phase = .energised .inlet then
      { r with phase := .closed, lastClosed := some (.inlet, now), pulseEnd := none } else r
    let opensAt := match cut.lastClosed with
      | some (.inlet, closed) => max now (closed + band)
      | _ => now
    t.chan c =
      if finish - opensAt < s.mdu.group.minWidth then { cut with opening := none }
      else if opensAt ≤ now then
        { cut with phase := .energised .outlet, pulseEnd := some finish, opening := none }
      else { cut with opening := some { valve := .outlet, opensAt := opensAt, endsAt := finish, dump := true } })

/-- R144, R145: the exports of a tyre unit are those of its slots and its group: for each wheel end the smallest deficit
of its tyres, the radius factor and the flat-tyre flag, and the capped tyre penalty of the rear wheel ends. -/
def Tyu.exportsCurrent (u : Tyu) : Prop :=
  let deficit := fun (x : Slot) => if x.state = .unknown ∨ x.state = .silent then (0 : Int)
    else max 0 (min 1000 (Int.tdiv (max 0 (x.pNom - x.p20.getD 0) * 1000) x.pNom))
  (∀ w : Wheel,
    let on := u.slots.filter (fun x => x.occupied && decide (x.wheel = w))
    let e := u.exports.get w
    (on = [] → e = { deficit := 0, factor := 4096, flat := false }) ∧
    (on ≠ [] → (∃ x ∈ on, e.deficit = deficit x) ∧ ∀ x ∈ on, e.deficit ≤ deficit x) ∧
    e.factor = 4096 - Int.tdiv (e.deficit * u.group.kr) 1000 ∧
    (e.flat = true ↔ on ≠ [] ∧ ∀ x ∈ on, x.state = .critical)) ∧
  u.penalty = min u.group.penaltyLimit ((u.slots.map (fun x =>
    if x.occupied = true ∧ (x.wheel = .a2l ∨ x.wheel = .a2r ∨ x.wheel = .a3l ∨ x.wheel = .a3r) then
      (if x.state = .low ∨ x.state = .leaking then u.group.lowPenalty
        else if x.state = .critical then u.group.criticalPenalty else 0)
    else 0)).sum)

/-- R142: the TYRE_STATE record of slot k as it changes from one state into another. -/
def tyreStateRecord (k : Nat) (before after : Slot) : Record :=
  { kind := .tyreState, subject := k, info := before.state.code * 256 + after.state.code, a := after.p20.getD 0
    b := after.leakRate.getD 0 }

/-- R147: the tyre unit after the adoption of a roster of clamped fields, slot by slot, with the exports that follow; its
receiver and counts stay. -/
def rosterAdopted (fields : List Nat) (before after : Tyu) : Prop :=
  let entries := field fields 8
  after = { before with group := after.group, slots := after.slots, exports := after.exports, penalty := after.penalty } ∧
  after.group = TyreGroup.ofFields fields ∧ after.slots.length = 12 ∧ after.exportsCurrent ∧
  ∀ k, k < 12 →
    let old := before.slots.getD k .empty
    let new := after.slots.getD k .empty
    let id := field fields (9 + 4 * k)
    let wheel := wheelOfCode (field fields (10 + 4 * k))
    let position := Position.ofCode (field fields (11 + 4 * k))
    let pNom : Int := field fields (12 + 4 * k)
    let same := old.occupied = true ∧ old.id = id ∧ old.wheel = wheel ∧ old.position = position
    (entries ≤ k → new.occupied = false) ∧
    (k < entries → same → new = { old with pNom := pNom }) ∧
    (k < entries → ¬same → new =
      { Slot.empty with occupied := true, id := id, wheel := wheel, position := position, pNom := pNom })

/-- The time that passes before a command (log 1). -/
def commandTime : Instr → Nat
  | .powerOnReset dt | .nresetAsserted dt | .nresetReleased dt | .loadCompletion dt | .sampleCompletion dt _ _
  | .staleTimerExpiry dt _ | .recoveryTimerExpiry dt _ | .sfeSectionTimerExpiry dt | .lduPeriodExpiry dt
  | .moveTimerExpiry dt | .windowExpiry dt _ | .edgeArrival dt _ | .dumpOutletOpening dt _ | .holdTimerExpiry dt _
  | .stepTimerExpiry dt _ | .valvePeriodExpiry dt | .pulseOpening dt _ | .pulseEnd dt _ | .driverReport dt _ _ _
  | .evaluationExpiry dt | .characterArrival dt _ _ _ | .gapTimerExpiry dt | .cdDeasserted dt | .silenceScan dt
  | .read dt _ _ _ | .write dt _ _ _ | .healthRead dt | .attnPoll dt | .attnEnd dt _ | .attnMaskWrite dt _
  | .takeVehicle dt | .takeLoad dt | .takeSlip dt | .takeValve dt | .takeRoll dt | .takeTyre dt | .takeAir dt
  | .takeReport dt | .takeClearFaults dt | .registerWriteIgnored dt _ _ | .cdAsserted dt => dt

/-- The commands that reach the part through the serial memory port (R158). -/
def isPortCommand : Instr → Bool
  | .read _ _ _ _ | .write _ _ _ _ | .healthRead _ | .attnPoll _ | .attnEnd _ _ | .attnMaskWrite _ _ | .takeVehicle _
  | .takeLoad _ | .takeSlip _ | .takeValve _ | .takeRoll _ | .takeTyre _ | .takeAir _ | .takeReport _
  | .takeClearFaults _ | .registerWriteIgnored _ _ _ => true
  | _ => false

/-- The two resets' commands that begin or hold a reset. -/
def isReset : Instr → Bool
  | .powerOnReset _ | .nresetAsserted _ | .nresetReleased _ => true
  | _ => false

/-- The TAKE row of a request (Table 10.6). -/
def takeCommand (dt : Nat) : Request → Instr
  | .vehicle => .takeVehicle dt
  | .load => .takeLoad dt
  | .slip => .takeSlip dt
  | .valve => .takeValve dt
  | .roll => .takeRoll dt
  | .tyre => .takeTyre dt
  | .air => .takeAir dt
  | .report => .takeReport dt
  | .clearFaults => .takeClearFaults dt

/-! ### Steps -/

/-- An invariant is kept when every step from a state that has it answers a next state that has it. -/
def KeptByEveryStep (inv : State → Prop) : Prop := ∀ s t, inv s → step s = .next t → inv t

end Sys2Proof.Machine
end

