-- ==== Sys2Proof/Certificates/Slice0/Obligations.lean ====
section
/-! DEFINITION. Certificates/Slice0/Obligations.lean: the statements for the provers, each a rule of the manual or a law
the manual says the part keeps. "now" in a docstring is the time at which the command falls, `s.uptime + dt` in
microseconds since the reset (log 1). A conclusion `t = { s.elapse dt with x := t.x }` is a frame: time has passed, the
component x may differ, and every other component is as it was. -/

open Sys2Proof Sys2Proof.Machine

/-! ### The machine -/

/-- A step takes the command at the front of the queue and runs it on the rest; with none pending the part idles
(log 1). -/
def Obligations.StepRunsFrontCommand : Prop :=
  (∀ (c : Instr) (s : State) (rest : List Instr), step { s with pending := c :: rest } = exec c { s with pending := rest }) ∧
  ∀ s : State, s.pending = [] → step s = .next s

/-- Every command answers a next state from every state, leaves the queue and the trim store alone, and, unless it is a
reset, moves the time by its own time. -/
def Obligations.EveryCommandCompletes : Prop :=
  ∀ (c : Instr) (s : State), ∃ t, exec c s = .next t ∧ t.pending = s.pending ∧ t.store = s.store ∧
    t.uptime = if isReset c then 0 else s.uptime + commandTime c

/-- Every law of Safety.lean holds right after power-on reset. -/
def Obligations.ResetKeepsTheLaws : Prop :=
  State.reset.memoryCanonical ∧ State.reset.attentionLaw ∧ State.reset.levelSourceLaw ∧ State.reset.conditionLaw ∧
  State.reset.journalLaw ∧ State.reset.modeLaw ∧ State.reset.slipLaw ∧ State.reset.liftLaw ∧ State.reset.rolloverLaw ∧
  State.reset.allowanceLaw ∧ State.reset.targetLaw ∧ State.reset.rosterLaw ∧ State.reset.receiverLaw ∧
  State.reset.wheelLaw

/-! ### Resets and the calibration load -/

/-- R167, R105: power-on reset leaves every block as after reset, fills exchange memory with 0 (the two sections rewritten
as the load begins apart, log 18), begins the load, and takes the driver indications that stand. The pins stand (log
9), and the load begins whatever nRESET shows (log 30, the model's reading). -/
def Obligations.PowerOnResetState : Prop :=
  ∀ (dt : Nat) (s : State), ∃ t, exec (.powerOnReset dt) s = .next t ∧
    t = { State.reset with pending := s.pending, freeCount := s.freeCount, pins := s.pins, store := s.store, mdu := t.mdu } ∧
    (∀ c, t.chan c = { ChannelRecord.reset with
      inlet := (s.pins.monitors.get c).inlet, outlet := (s.pins.monitors.get c).outlet }) ∧
    t.mdu.group = .default ∧ t.mdu.due = none ∧ t.mdu.periodEnd = none ∧
    t.shows .device t.deviceBody ∧ t.shows .journal t.jrw.body ∧
    ∀ x, x < 0x0C00 ∨ (0x0C80 ≤ x ∧ x < 0x13C0) ∨ 0x1400 ≤ x → Memory.byte t.mem x = 0

/-- R14, R158, R167: with nRESET asserted the blocks are as after reset, no load runs, no port transaction stands, and
exchange memory is kept whole; from then on the port ignores every command. -/
def Obligations.NresetAssertedSilencesThePort : Prop :=
  (∀ (dt : Nat) (s : State), ∃ t, exec (.nresetAsserted dt) s = .next t ∧
    t = { State.reset with
      pending := s.pending, freeCount := s.freeCount, store := s.store, mem := s.mem
      pins := { s.pins with nreset := true }, load := { buffer := [], due := none } }) ∧
  ∀ (c : Instr) (s : State), isPortCommand c = true → s.pins.nreset = true →
    exec c s = .next (s.elapse (commandTime c))

/-- R14, R165, R167, R176: at the release of nRESET a load begins, the device section and the journal section are
rewritten with stamps one up from those that stood, and every other byte is kept. -/
def Obligations.NresetReleasedBeginsTheLoad : Prop :=
  ∀ (dt : Nat) (s : State), ∃ t, exec (.nresetReleased dt) s = .next t ∧
    t = { State.reset with
      pending := s.pending, freeCount := s.freeCount, store := s.store, mem := t.mem, mdu := t.mdu
      pins := { s.pins with nreset := false } } ∧
    (∀ c, t.chan c = { ChannelRecord.reset with
      inlet := (s.pins.monitors.get c).inlet, outlet := (s.pins.monitors.get c).outlet }) ∧
    t.mdu.group = .default ∧ t.mdu.due = none ∧ t.mdu.periodEnd = none ∧
    sameOutside [.device, .journal] s t ∧ (∀ x, 0x1400 ≤ x → Memory.byte t.mem x = Memory.byte s.mem x) ∧
    rewrote s t .device t.deviceBody ∧ rewrote s t .journal t.jrw.body ∧
    ∀ sec, sec = .device ∨ sec = .journal → Memory.word t.mem sec.base = (s.headStamp sec + 1) % 65536 ∧
      Memory.word t.mem (sec.base + sec.size - 4) = (s.headStamp sec + 1) % 65536

/-- R15, R105, R163, R165: a load that is due and whose nineteen words sum to 0xA5C3 is good: the trims are copied, the
device state becomes UNCONFIGURED, and every period and the section timer start. A driver indication that stands at
OPEN_LOAD or SHORT adds its cause, counted, with VALVE_FAULT and FAULT attention, to a channel that is in BACKUP
already (log 13 orders it before the TYRE request; a cause already in the set is not added again, log 21; the section
shows it at once, log 39: the model's readings). A pending TYRE request is taken when no telegram is open. Without
either, the one record handed is DEVICE_STATE. Under the mode law the records are the FAULT record of each cause added
(R110, value A 1), the TAKE record and the DEVICE_STATE record, in this order (log 13). The load buffer holds the
nineteen words from the completion on (log 27, the model's reading), and each period is counted from the time of the
command, also when that is late (log 4, the model's choice). -/
def Obligations.GoodLoadStartsThePart : Prop :=
  ∀ (dt : Nat) (s : State), dueAt s.load.due (s.uptime + dt) → sumWords s.store = 0xA5C3 →
    ∃ t, exec (.loadCompletion dt) s = .next t ∧
      t = { s.elapse dt with
        load := { buffer := s.store, due := none }
        xpt := t.xpt, sfe := t.sfe, ldu := { s.ldu with due := some (s.uptime + dt + 10000) }
        wsu := { s.wsu with due := some (s.uptime + dt + 10000) }
        rou := { s.rou with due := some (s.uptime + dt + 20000) }
        mdu := t.mdu, scu := t.scu, tyu := t.tyu, mem := t.mem, jrw := t.jrw, atc := t.atc, health := t.health } ∧
      t.xpt.device = .unconfigured ∧ t.xpt.loadSum = 0xA5C3 ∧
      t.sfe = { s.sfe with trims := t.sfe.trims, sectionDue := some (s.uptime + dt + 10000) } ∧
      (∀ i : Input, t.sfe.trims.get i = { offset := (s.store.getD (2 * i.index) 0).toInt
                                          gain := ((s.store.getD (2 * i.index + 1) 0).toNat : Int) }) ∧
      t.mdu.due = some (s.uptime + dt + s.mdu.group.period.toNat * 1000) ∧
      t.tyu.due = some (s.uptime + dt + 1000000) ∧
      sameOutside [.device, .slip, .modulator, .tyres, .journal] s t ∧
      let adds := fun (c : Channel) (k : Cause) => (s.chan c).causes.get k = false ∧
        ((k = .inletOpen ∧ (s.chan c).inlet = .openLoad) ∨ (k = .inletShort ∧ (s.chan c).inlet = .short) ∨
          (k = .outletOpen ∧ (s.chan c).outlet = .openLoad) ∨ (k = .outletShort ∧ (s.chan c).outlet = .short))
      let inlet := fun (c : Channel) => adds c .inletOpen ∨ adds c .inletShort
      let outlet := fun (c : Channel) => adds c .outletOpen ∨ adds c .outletShort
      let started : Tyu := { s.tyu with due := some (s.uptime + dt + 1000000) }
      let takes := s.isPending .tyre = true ∧ s.tyu.isOpen = false
      let tyre := s.tyreVerdict
      (∀ c, (∀ k, (t.chan c).causes.get k = true ↔ (s.chan c).causes.get k = true ∨ adds c k) ∧
        (inlet c → outlet c → (t.chan c).faultCount = min ((s.chan c).faultCount + 2) 65535) ∧
        (inlet c → ¬outlet c → (t.chan c).faultCount = min ((s.chan c).faultCount + 1) 65535) ∧
        (¬inlet c → outlet c → (t.chan c).faultCount = min ((s.chan c).faultCount + 1) 65535) ∧
        (¬inlet c → ¬outlet c → (t.chan c).faultCount = (s.chan c).faultCount)) ∧
      t.shows .device t.deviceBody ∧
      ((∃ c k, adds c k) → t.health.valveFault = true ∧ t.atc.pending.fault = true ∧
        t.shows .modulator t.modulatorBody) ∧
      ((∀ c k, ¬adds c k) → t.mdu.channels = s.mdu.channels ∧ t.scu = s.scu ∧
        t.health.valveFault = s.health.valveFault ∧ t.atc.pending.fault = s.atc.pending.fault) ∧
      (s.modeLaw → t.scu = s.scu ∧ ∀ c, t.chan c =
        { s.chan c with causes := (t.chan c).causes, faultCount := (t.chan c).faultCount }) ∧
      (takes → taken s t .tyre tyre.1 ∧
        (tyre.1.isAccepted = true → rosterAdopted tyre.2 started t.tyu ∧ rewrote s t .tyres t.tyreBody) ∧
        (tyre.1.isAccepted = false → t.tyu = started)) ∧
      (¬takes → t.tyu = started ∧ t.isPending .tyre = s.isPending .tyre ∧ t.xpt.reports.tyre = s.xpt.reports.tyre) ∧
      (∀ r, r ≠ .tyre → t.isPending r = s.isPending r ∧ t.xpt.reports.get r = s.xpt.reports.get r) ∧
      let device : Record := { kind := .deviceState, subject := 0, info := 0x0001, a := 0xA5C3, b := 0 }
      ((∀ c k, ¬adds c k) → ¬takes → recorded (s.elapse dt) t [device]) ∧
      (s.modeLaw → recorded (s.elapse dt) t (Channel.all.flatMap (fun c =>
          [Cause.inletOpen, .inletShort, .outletOpen, .outletShort].flatMap (fun k =>
            if adds c k then causeRecords s t c k else []))
        ++ takenRecords s t .tyre ++ [device]))

/-- R15, R166: a load that is due and whose words sum to another value is bad: the device state becomes SAFE, FAULT is
pending, nothing starts, and no block's record changes. The one record is DEVICE_STATE, and every section but the
journal's is rewritten once from the records as they stand, with the items that R72, R114 and R134 name for SAFE (log
17, the model's reading). The load buffer then holds the nineteen words (log 27, the model's reading). -/
def Obligations.BadLoadEntersSafe : Prop :=
  ∀ (dt : Nat) (s : State), dueAt s.load.due (s.uptime + dt) → sumWords s.store ≠ 0xA5C3 →
    ∃ t, exec (.loadCompletion dt) s = .next t ∧
      t = { s.elapse dt with
        load := { buffer := s.store, due := none }
        xpt := { s.xpt with device := .safe, loadSum := sumWords s.store }
        mem := t.mem, jrw := t.jrw, atc := t.atc, health := t.health } ∧
      t.atc.pending.fault = true ∧
      recorded (s.elapse dt) t [{ kind := .deviceState, subject := 0, info := 0x0003, a := sumWords s.store, b := 0 }] ∧
      rewrote s t .device t.deviceBody ∧ rewrote s t .sensors t.sensorBody ∧ rewrote s t .demand t.demandBody ∧
      rewrote s t .lift t.liftBody ∧ rewrote s t .slip t.slipBody ∧ rewrote s t .tyres t.tyreBody ∧
      rewrote s t .air t.airBody ∧
      rewrote s t .wheels { t with wsu := { t.wsu with travel := 0, includedCount := 0 } }.wheelBody ∧
      rewrote s t .rollover ({ t with rou := { t.rou with stageEntry := t.ms } }.rolloverBody 0) ∧
      (let shown := fun (c : Channel) => { t.chan c with causes :=
          { inletOpen := false, inletShort := false, outletOpen := false, outletShort := false, pdFault := false
            tracking := false, sourceNone := false, notActive := true } };
        rewrote s t .modulator
          { t with mdu := { t.mdu with channels := ⟨shown .front, shown .left, shown .right⟩ } }.modulatorBody) ∧
      ∀ x, x < 0x0C00 ∨ 0x1800 ≤ x → Memory.byte t.mem x = Memory.byte s.mem x

/-! ### Sensor front end -/

/-- R3 to R6, R10: a sample in START and SAFE is not taken. Otherwise an in-window sample converts with the input's trim
and is VALID, or, in FAULT, is kept as the recovery value with the recovery timer running; an out-of-window one stores
its counts, leaves the value field and moves state and timer as Table 1.1 gives. The other entries are untouched;
beyond its own entry a sample reaches AAC for Pres, the seed flag and Af for Ay, and nothing for the others. -/
def Obligations.SampleCompletion : Prop :=
  ∀ (dt : Nat) (i : Input) (n : BitVec 12) (s : State), ∃ t, exec (.sampleCompletion dt i n) s = .next t ∧
    (i ≠ .pres → i ≠ .ay → t = { s.elapse dt with sfe := t.sfe }) ∧ (i ≠ .ay → t.sfe.seed = s.sfe.seed) ∧
    (i = .ay → t = { s.elapse dt with sfe := t.sfe, rou := { s.rou with af := t.rou.af } }) ∧
    (i = .pres → t = { s.elapse dt with
        sfe := t.sfe, aac := t.aac, rou := { s.rou with degraded := t.rou.degraded }, xpt := t.xpt, mem := t.mem
        jrw := t.jrw, atc := t.atc, health := t.health } ∧ sameOutside [.device, .air, .journal] s t) ∧
    (s.isRunning = false → t = s.elapse dt) ∧
    (s.isRunning = true →
      let e := s.entry i
      let trim := s.sfe.trims.get i
      let limit : Int × Int := if i = .ay then (-1500, 1500) else (0, 1200)
      let value := clamp limit.1 limit.2 ((((n.toNat : Int) - trim.offset) * trim.gain + 2048) / 4096)
      let stale := s.uptime + dt + (if i.index < 5 then 500000 else 100000)
      (∀ k, k ≠ i → t.entry k = s.entry k) ∧ t.sfe.trims = s.sfe.trims ∧ t.sfe.sectionDue = s.sfe.sectionDue ∧
      (100 ≤ n.toNat → n.toNat ≤ 3995 →
        (e.state ≠ .fault → t.entry i =
          { e with value := value, counts := n, state := .valid, timer := none, recovery := none }) ∧
        (e.state = .fault → t.entry i =
          { e with counts := n, recovery := some value, timer := some (e.timer.getD (s.uptime + dt + 1000000)) })) ∧
      (n.toNat < 100 ∨ 3995 < n.toNat →
        (e.state = .valid → t.entry i = { e with counts := n, state := .stale, timer := some stale }) ∧
        (e.state = .stale → t.entry i = { e with counts := n }) ∧
        (e.state = .invalid → t.entry i = { e with counts := n, timer := some (e.timer.getD stale) }) ∧
        (e.state = .fault → t.entry i = { e with counts := n, timer := none, recovery := none })))

/-- R7, R9, R10, R11: the stale timer of an INVALID or STALE entry that is due declares a fault: state FAULT, the value
kept, the count one up, SENSOR_FAULT set and FAULT pending; a Pd input puts PD_FAULT into its channel's cause set and
stores to the slip and modulator sections and the journal alone; Ay sets Af to 0; another input hands the one FAULT
record. A Pd input hands that record too, and where PD_FAULT was not in the set the records of its addition (R88,
R110; their order is log 13's). A PD_FAULT that stands already is not added again and hands no such record (log 21,
the model's reading). -/
def Obligations.StaleTimerDeclaresFault : Prop :=
  ∀ (dt : Nat) (i : Input) (s : State), (s.entry i).state = .invalid ∨ (s.entry i).state = .stale →
    dueAt (s.entry i).timer (s.uptime + dt) →
    ∃ t, exec (.staleTimerExpiry dt i) s = .next t ∧
      t = { s.elapse dt with
        sfe := t.sfe, rou := { s.rou with af := t.rou.af }, mdu := t.mdu, scu := t.scu, mem := t.mem, jrw := t.jrw
        atc := t.atc, health := t.health } ∧
      t.entry i = { s.entry i with
        state := .fault, timer := none, recovery := none, faultCount := min ((s.entry i).faultCount + 1) 65535 } ∧
      (∀ k, k ≠ i → t.entry k = s.entry k) ∧ t.health.sensorFault = true ∧ t.atc.pending.fault = true ∧
      t.rou.af = (if i = .ay then 0 else s.rou.af) ∧
      (∀ c, i = Channel.pd c → (t.chan c).causes.pdFault = true ∧ (s.modeLaw → (t.chan c).mode = .backup) ∧
        sameOutside [.slip, .modulator, .journal] s t ∧
        ((s.chan c).causes.pdFault = false → rewrote s t .modulator t.modulatorBody) ∧
        (t.scu.channels ≠ s.scu.channels → rewrote s t .slip t.slipBody) ∧
        recorded (s.elapse dt) t ({ kind := .fault, subject := i.index, info := 0x0101
                                    a := ((s.entry i).counts.toNat : Int), b := s.value i } ::
          if (s.chan c).causes.pdFault = true then [] else causeRecords s t c .pdFault)) ∧
      ((∀ c, i ≠ Channel.pd c) → t.mdu = s.mdu ∧ t.scu = s.scu ∧
        handsOne (s.elapse dt) t { kind := .fault, subject := i.index, info := 0x0101
                                   a := ((s.entry i).counts.toNat : Int), b := s.value i })

/-- R8, R11: the recovery timer of an entry in FAULT that is due clears the fault: state VALID with the recovery value,
the fault count kept, one FAULT record, and no attention event (of the eight levels only JOURNAL, which follows the
journal, can move); a recovered Ay sets the seed flag. -/
def Obligations.RecoveryTimerClearsFault : Prop :=
  ∀ (dt : Nat) (i : Input) (v : Int) (s : State), (s.entry i).state = .fault → (s.entry i).recovery = some v →
    dueAt (s.entry i).timer (s.uptime + dt) →
    ∃ t, exec (.recoveryTimerExpiry dt i) s = .next t ∧
      t = { s.elapse dt with sfe := t.sfe, mem := t.mem, jrw := t.jrw, atc := t.atc, health := t.health } ∧
      t.entry i = { s.entry i with state := .valid, value := v, timer := none, recovery := none } ∧
      (∀ k, k ≠ i → t.entry k = s.entry k) ∧
      t.sfe.seed = (if i = .ay then true else s.sfe.seed) ∧
      (∀ l : Level, l ≠ .journal → t.atc.pending.get l = s.atc.pending.get l) ∧
      handsOne (s.elapse dt) t { kind := .fault, subject := i.index, info := 0x0102
                                 a := ((s.entry i).counts.toNat : Int), b := v }

/-- R11: Af at an Ay sample, by the state of the Ay entry after the sample and the seed flag. -/
def Obligations.LateralAccelerationFilter : Prop :=
  ∀ (dt : Nat) (n : BitVec 12) (s : State), s.isRunning = true →
    ∃ t, exec (.sampleCompletion dt .ay n) s = .next t ∧
      match (t.entry .ay).state, s.sfe.seed with
      | .valid, true => t.rou.af = t.value .ay ∧ t.sfe.seed = false
      | .valid, false => t.rou.af = s.rou.af + Int.tdiv (t.value .ay - s.rou.af) 8 ∧ t.sfe.seed = false
      | .stale, seed => t.rou.af = s.rou.af ∧ t.sfe.seed = seed
      | .invalid, seed => t.rou.af = s.rou.af ∧ t.sfe.seed = seed
      | .fault, seed => t.rou.af = 0 ∧ t.sfe.seed = seed

/-- R12, R161: the section timer that is due while sampling runs is started again and the sensor section alone is
rewritten, its stamps one up and equal, with state, value, counts and fault count of each input in index order. The
next expiry counts from the time of the command, also when that is late (log 4, the model's choice). For every section
of Table 10.4: a rewrite makes its stamps one up and equal, shows the items given, each aligned to its own size in the
order listed and 0 in every other byte, and touches nothing outside; and the items of each body are those that R12,
R40, R55, R72, R93, R114, R134, R148, R156, R164 and R174 list. Which event rewrites which section is stated of the
events. Codes that the manual does not number are log 15's, a flag of a set for each item log 14's, the widths of ages
log 16's, and the ignored enables log 41's: the model's choices. -/
def Obligations.StatusSections : Prop :=
  (∀ (dt : Nat) (s : State), s.isRunning = true → dueAt s.sfe.sectionDue (s.uptime + dt) →
    ∃ t, exec (.sfeSectionTimerExpiry dt) s = .next t ∧
      t = { s.elapse dt with sfe := { s.sfe with sectionDue := some (s.uptime + dt + 10000) }, mem := t.mem } ∧
      sameOutside [.sensors] s t ∧
      Memory.word t.mem 0x0C80 = (Memory.half s.mem 0x0CFC + 1) % 65536 ∧
      Memory.word t.mem 0x0CFC = (Memory.half s.mem 0x0CFC + 1) % 65536 ∧
      ∀ i : Input, Memory.half t.mem (0x0C84 + 8 * i.index) = (s.entry i).state.code ∧
        Memory.half t.mem (0x0C86 + 8 * i.index) = ((s.value i) % 65536).toNat ∧
        Memory.half t.mem (0x0C88 + 8 * i.index) = (s.entry i).counts.toNat ∧
        Memory.half t.mem (0x0C8A + 8 * i.index) = (s.entry i).faultCount % 65536) ∧
  (∀ (s : State) (sec : Section) (items : List Item),
    let t := s.rewrite sec items
    t = { s with mem := t.mem } ∧ rewrote s t sec items ∧
    ∀ x, x < sec.base ∨ sec.base + sec.size ≤ x → Memory.byte t.mem x = Memory.byte s.mem x) ∧
  (∀ p ∈ [(Section.device, 0x0C00, 128), (.sensors, 0x0C80, 128), (.demand, 0x0D00, 192), (.lift, 0x0DC0, 64),
      (.wheels, 0x0E00, 192), (.slip, 0x0EC0, 192), (.modulator, 0x0F80, 192), (.rollover, 0x1040, 192),
      (.tyres, 0x1100, 640), (.air, 0x1380, 64), (.journal, 0x13C0, 64)],
    p.1.base = p.2.1 ∧ p.1.size = p.2.2) ∧
  (∀ (before after : List Item) (n : Nat),
    let start := (packItems 4 before).length
    let halves := packItems 4 (before ++ .half n :: after)
    let words := packItems 4 (before ++ .word n :: after)
    let aligned := start + start % 4
    start % 2 = 0 ∧ halves.take start = packItems 4 before ∧ words.take start = packItems 4 before ∧
    (packItems 4 (before ++ [.half n])).length = start + 2 ∧
    halves.getD start 0 = BitVec.ofNat 8 n ∧ halves.getD (start + 1) 0 = BitVec.ofNat 8 (n / 256) ∧
    (packItems 4 (before ++ [.word n])).length = aligned + 4 ∧
    (∀ k, start ≤ k → k < aligned → words.getD k 0 = 0) ∧
    ∀ k, k < 4 → words.getD (aligned + k) 0 = BitVec.ofNat 8 (n / 256 ^ k)) ∧
  ∀ s : State,
    let flag := fun (b : Bool) => Item.half (if b then 1 else 0)
    let int := fun (i : Int) => Item.half (i % 65536).toNat
    let long := fun (i : Int) => Item.word (i % 4294967296).toNat
    let ints := fun (l : List Int) => l.map int
    let since := fun (x : Time) => ((s.ms - x).toNat : Int)
    let age := fun (x : Option Time) => ((x.map since).getD 0 : Int)
    let load := s.ldu.load
    let lift := flag load.autoMode :: ints [load.raiseRatio, load.lowerRatio, load.raiseDelay, load.lowerDemand,
      load.loweredConfirm, load.raisedConfirm, load.moveTimeout, load.raisedDwell]
    let request := fun (r : LiftRequest) => Item.half (match r with
      | .auto => 0
      | .lower => 1
      | .raise => 2)
    s.deviceBody = .half (match s.xpt.device with
        | .start => 0
        | .unconfigured => 1
        | .active => 2
        | .safe => 3) :: .word s.ms.toNat :: .half s.xpt.loadSum :: Request.all.flatMap (fun r =>
      [.half (match (s.xpt.reports.get r).result with
        | .none => 0
        | .accepted => 1
        | .acceptedClamped => 2
        | .refused => 3), .half (s.xpt.reports.get r).detail, .half (s.xpt.reports.get r).count]) ∧
    s.sensorBody = Input.all.flatMap (fun i =>
      [.half (match (s.entry i).state with
        | .invalid => 0
        | .valid => 1
        | .stale => 2
        | .fault => 3), int (s.value i), .half (s.entry i).counts.toNat, .half (s.entry i).faultCount]) ∧
    (let d := s.ldu.demand;
      let axle := fun (a : Axle) => ints [a.b, a.l, a.r, a.f, a.pAxle] ++ [.half (match a.source with
        | .sensed => 0
        | .assumedLaden => 1), flag a.valid]
      let curve := fun (c : Curve) => ints [c.b0, c.l0, c.g, c.lempty, c.lladen, c.e]
      s.demandBody = [.half (d.lastStamp.getD 0xFFFF), .half d.age, flag (decide (d.link = .good)), int d.de,
          request d.liftRead, request d.liftHanded]
        ++ (match d.freshness with
          | .fresh => [.half 0, .half 0]
          | .stale .timeout => [.half 1, .half 1]
          | .stale .linkDown => [.half 1, .half 2]
          | .stale .noChange => [.half 1, .half 3])
        ++ [.half (match d.source with
          | .electric => 0
          | .pneumatic => 1
          | .none => 2), flag d.mismatch, int d.d]
        ++ axle s.ldu.front ++ axle s.ldu.rear
        ++ (match s.ldu.vehicle with
          | none => flag false :: List.replicate 22 (.half 0)
          | some v => [flag true, flag (decide (v.kind = .lift)), flag v.bellowsUsed] ++ curve v.front ++ curve v.rear
            ++ ints [v.circumference, v.teeth] ++ Wheel.all.map (fun w => flag (v.fitted.get w)))
        ++ ints [load.demandTimeout, load.mismatchLimit, load.releaseThreshold, load.knee, load.pmax] ++ lift) ∧
    (let l := s.lfc;
      s.liftBody = [.half (match l.state with
          | .unknown => 0
          | .lowered => 1
          | .raising => 2
          | .raised => 3
          | .lowering => 4), flag l.valve, request l.request, flag (load.autoMode && decide (l.request = .auto)),
        long (age l.lowRatioStart), long (age l.dwellStart), int (age l.moveStart),
        .half (match l.moveCause with
          | .auto => 0
          | .hostRaise => 1
          | .ratio => 2
          | .demand => 3
          | .hostLower => 4
          | .bfInvalid => 5
          | .reserve => 6
          | .rollover => 7),
        .half (match l.lastResult with
          | none => 0
          | some (direction, outcome) => (match direction with
            | .raise => 0x0100
            | .lower => 0x0200) + (match outcome with
            | .completed => 0
            | .timeout => 1
            | .aborted => 2)),
        .half l.refusalCount, .half l.timeoutCount] ++ lift) ∧
    s.wheelBody = [int s.wsu.vref, int s.wsu.candidate, .half s.wsu.includedCount, flag s.wsu.ramp, long s.wsu.travel]
      ++ Wheel.all.flatMap (fun w =>
        let r := s.wheel w
        [flag r.fitted, flag (decide (r.sensor = .fault)), .half (match r.faultKind with
          | none => 0
          | some .openCircuit => 1
          | some .zeroSpeed => 2), flag r.excl.notFitted, flag r.excl.sensorFault, flag r.excl.lifted,
          flag r.excl.flatTyre, int r.v, int r.c, int r.vc, long r.aw, int r.slip, .half r.faultCount]) ∧
    (let g := s.scu.group;
      s.slipBody = Channel.all.flatMap (fun c =>
          let r := s.slip c
          [.half (match r.state with
            | .pass => 0
            | .dump => 1
            | .hold => 2
            | .rebuild => 3
            | .off => 4), .half ((r.wheel.map Wheel.index).getD 0xFF), int r.pSlip, int r.lock, .half r.index,
            .half r.offset, .half r.dumps, int (r.minPd.getD 0), long (age r.episodeStart), flag r.suppressed,
            .half r.deferrals, .half r.episodes])
        ++ ints [g.vmin, g.ldump, g.lhold, g.adump, g.areaccel, g.holdTime, g.stepTime] ++ [.half g.startIndex]
        ++ Channel.all.map (fun c => .half (match g.spans.get c with
          | .all => 0
          | .lower => 1
          | .upper => 2)) ++ ints g.slope) ∧
    (let g := s.mdu.group;
      s.modulatorBody = Channel.all.flatMap (fun c =>
          let r := s.chan c
          let indication := fun (i : Indication) => Item.half (match i with
            | .ok => 0
            | .openLoad => 1
            | .short => 2)
          [flag (decide (r.mode = .backup)), flag r.causes.inletOpen, flag r.causes.inletShort, flag r.causes.outletOpen,
            flag r.causes.outletShort, flag r.causes.pdFault, flag r.causes.tracking, flag r.causes.sourceNone,
            flag r.causes.notActive, int r.pAxle, int r.pRoll, int r.pSlip,
            int (min r.pCmd (min (s.slip c).pSlip s.ldu.load.pmax)), int r.pd, int r.e, .half (match r.phase with
            | .closed => 0
            | .energised .inlet => 1
            | .energised .outlet => 2), int r.w, indication r.inlet, indication r.outlet,
            int ((r.trackingStart.map (fun x => (s.tenths - x) / 10)).getD 0), .half r.faultCount])
        ++ ints [g.period, g.deadZone, g.kin, g.kout, g.minWidth, g.deadBand, g.trackingLimit, g.trackingTime]) ∧
    (let r := s.rou;
      let g := r.group
      let side := fun (x : Side) => match x with
        | .left => 1
        | .right => 2
      s.rolloverBody s.lastTestAge = [.half (match r.stage with
          | .quiet => 0
          | .watch => 1
          | .test => 2
          | .brake => 3
          | .holdoff => 4), .half (side r.outer)] ++ ints [r.af, r.aThr, r.aWatch, r.aRelease]
        ++ [(r.transfer.map int).getD (.half 0x8000), long (since r.stageEntry), int (age r.calmStart),
          int (age r.testStart), .half ((r.testChannel.map side).getD 0), .half (match r.testResult with
          | .none => 0
          | .grip => 1
          | .lift => 2
          | .inconclusive => 3), int r.testPeak, .word ((r.lastTest.map (fun x => (s.ms - x).toNat)).getD 0xFFFFFFFF)]
        ++ ints [r.pRoll.front, r.pRoll.left, r.pRoll.right]
        ++ [flag r.unavailable, flag r.degraded, .half r.interventions, .half r.tests, .half r.refusals]
        ++ ints [g.aEmpty, g.aLaden, g.sloshPenalty, g.sloshLow, g.sloshHigh, g.vrollMin, g.transferLimit,
          g.testInterval, g.testDuration, g.pTest, g.testSuppress, g.llift, g.pRollStart, g.rampStep, g.pRollMax,
          g.innerShare, g.releaseTime, g.holdoffTime]) ∧
    (let u := s.tyu;
      let g := u.group
      let measured := fun (x : Option Int) => (x.map int).getD (.half 0x7FFF)
      s.tyreBody = [.half u.gapErrors, .half u.parityErrors, .half u.frameErrors, .half u.checkErrors, .half u.strangers,
          .half u.telegrams]
        ++ u.slots.flatMap (fun x =>
          [flag x.occupied, .word x.id, .half x.wheel.index, .half (match x.position with
            | .single => 0
            | .inner => 1
            | .outer => 2), int x.pNom, .half (match x.state with
            | .unknown => 0
            | .normal => 1
            | .low => 2
            | .critical => 3
            | .leaking => 4
            | .silent => 5), measured x.lastP, measured x.lastT, measured x.p20,
            (x.leakRate.map long).getD (.word 0xFFFFFFFF), .half x.leakCount, .half x.silentTimer, flag x.batteryLow,
            flag x.rotating, .half x.telegrams, (x.lastArrival.map (fun a => long (since a))).getD (.word 0xFFFFFFFF)])
        ++ Wheel.all.flatMap (fun w =>
          [int (u.exports.get w).deficit, int (u.exports.get w).factor, flag (u.exports.get w).flat])
        ++ ints [u.penalty, g.criticalPct, g.lowPct, g.leakThreshold, g.silentTime, g.kr, g.lowPenalty, g.criticalPenalty,
          g.penaltyLimit] ++ [.half g.entryCount]) ∧
    (let g := s.aac.group;
      let allowance := fun (base : Int) (x : Allowance) => [int base, int x.current, flag (decide (x.current = 0)),
        .half x.grants, .half x.refusedCount, .half x.refusedReserve]
      s.airBody = [flag s.aac.critical, long (since s.aac.lastReload)] ++ allowance g.testBase s.aac.test
        ++ allowance g.liftBase s.aac.lift
        ++ ints [g.reserve, g.critical, g.reload, g.hysteresis, g.testBase, g.liftBase]
        ++ [flag g.autoReload, long g.interval]) ∧
    (let j := s.jrw;
      j.body = [.half j.w.toNat, .half j.rel.toNat, .half j.occupied, .half j.free, .half j.drops, flag j.warning,
        .half j.ignored, .half j.group.kinds.toNat, .half j.group.warningLevel])

/-! ### Load unit -/

/-- R20, R21: an LDU period reads the demand slot by Table 2.2 and compares the stamp with the last one seen. -/
def Obligations.DemandSlotIsRead : Prop :=
  ∀ (dt : Nat) (s : State), s.isRunning = true → dueAt s.ldu.due (s.uptime + dt) →
    ∃ t, exec (.lduPeriodExpiry dt) s = .next t ∧
      let d := s.ldu.demand
      let r := t.ldu.demand
      let stamp := (Memory.byte s.mem 0x0804).toNat
      let since := (t.ms - s.ldu.lastPeriod).toNat
      r.link = (if Memory.byte s.mem 0x0800 = 1 then .good else .down) ∧
      r.liftRead = (if Memory.byte s.mem 0x0801 = 1 then .lower
        else if Memory.byte s.mem 0x0801 = 2 then .raise else .auto) ∧
      r.de = min (Memory.half s.mem 0x0802 : Int) 1000 ∧ r.lastStamp = some stamp ∧
      (d.lastStamp = none → r.age = 0 ∧ r.changeSeen = d.changeSeen) ∧
      (d.lastStamp = some stamp → r.age = min (d.age + since) 65535 ∧ r.changeSeen = d.changeSeen) ∧
      (∀ last, d.lastStamp = some last → last ≠ stamp → r.age = 0 ∧ r.changeSeen = true)

/-- R22, R23, R24, R108: after the slot has been read, freshness with its stale cause, the source of Table 2.3 with the
DEMAND condition, and the lift request handed. A source that becomes NONE puts the cause into all three cause sets and
every unit in REGULATE into BACKUP in the event; a source that leaves NONE takes the cause out and leaves the modes.
When the source becomes NONE, the modulator section is rewritten once (R114; log 31, the model's reading), with the
records as they stand before a group of this period is taken, and the slip section once where a slip record changed
(R93). The records of the period are O18's. -/
def Obligations.FreshnessAndSource : Prop :=
  ∀ (dt : Nat) (s : State), s.isRunning = true → dueAt s.ldu.due (s.uptime + dt) →
    ∃ t, exec (.lduPeriodExpiry dt) s = .next t ∧
      let r := t.ldu.demand
      let fresh := r.changeSeen = true ∧ (r.age : Int) ≤ s.ldu.load.demandTimeout ∧ r.link = .good
      (fresh → r.freshness = .fresh ∧ r.source = .electric ∧ r.liftHanded = r.liftRead) ∧
      (¬fresh → r.freshness = .stale (if r.link = .down then .linkDown
          else if r.changeSeen = true then .timeout else .noChange) ∧
        r.source = (if s.valid .pc = true then .pneumatic else .none) ∧
        r.liftHanded = (if r.link = .down then r.liftRead else .auto)) ∧
      (t.atc.demand = true ↔ r.source ≠ .electric) ∧
      (s.rearPairLaw → s.ldu.demand.source ≠ .none → r.source = .none →
        ∀ c, (t.chan c).causes.sourceNone = true ∧ (t.chan c).mode = .backup) ∧
      (s.ldu.demand.source ≠ .none → r.source = .none →
        let before := fun (c : Channel) => { t.chan c with causes :=
          { (t.chan c).causes with notActive := (s.chan c).causes.notActive } }
        let shown := { t with
          mdu := { t.mdu with channels := ⟨before .front, before .left, before .right⟩ }
          ldu := { t.ldu with load := s.ldu.load } }
        rewrote s t .modulator shown.modulatorBody ∧
        (t.scu.channels ≠ s.scu.channels → rewrote s t .slip t.slipBody) ∧
        (t.scu.channels = s.scu.channels → sameOutside [.demand, .lift, .modulator, .air, .device, .journal] s t)) ∧
      (s.ldu.demand.source = .none → r.source ≠ .none →
        ∀ c, (t.chan c).causes.sourceNone = false ∧ (t.chan c).mode = (s.chan c).mode)

/-- R25, R26, R27: the mismatch run, its declaration after 500 ms with DEMAND_MISMATCH set, and its end; the effective
demand from source, mismatch flag, De and Pc, with the release threshold that was in force. -/
def Obligations.MismatchAndEffectiveDemand : Prop :=
  ∀ (dt : Nat) (s : State), s.isRunning = true → dueAt s.ldu.due (s.uptime + dt) →
    ∃ t, exec (.lduPeriodExpiry dt) s = .next t ∧
      let d := s.ldu.demand
      let r := t.ldu.demand
      let apart := magnitude (r.de - s.value .pc)
      let disagrees := r.freshness = .fresh ∧ s.valid .pc = true ∧ s.ldu.load.mismatchLimit < apart
      let found : Int := match r.source with
        | .electric => if r.mismatch = true then max r.de (s.value .pc) else r.de
        | .pneumatic => s.value .pc
        | .none => 0
      let bounded := max 0 (min 1000 found)
      (¬disagrees → r.mismatchStart = none ∧ r.mismatch = false) ∧
      (disagrees → d.mismatchStart = none → r.mismatchStart = some t.ms ∧ r.mismatch = d.mismatch) ∧
      (∀ start, disagrees → d.mismatchStart = some start → r.mismatchStart = some start ∧
        (r.mismatch = true ↔ d.mismatch = true ∨ 500 ≤ (t.ms - start).toNat) ∧
        (d.mismatch = false → r.mismatch = true → t.health.demandMismatch = true)) ∧
      r.d = if bounded < s.ldu.load.releaseThreshold then 0 else bounded

/-- R29 to R34: both axle records after a period under a VEHICLE group, in the settings then in force: bellows, load,
ratio, factor and target; the FRONT target is 0 while the axle is RAISING or RAISED. -/
def Obligations.AxleRecords : Prop :=
  ∀ (dt : Nat) (s : State), s.isRunning = true → dueAt s.ldu.due (s.uptime + dt) →
    ∃ t, exec (.lduPeriodExpiry dt) s = .next t ∧ ∀ v, t.ldu.vehicle = some v →
      let g := t.ldu.load
      let d := t.ldu.demand.d
      let curve := fun (c : Curve) (bellows : Option Int) =>
        let l : Int := match bellows with
          | some b => max 0 (min 2000 (c.l0 + ((b - c.b0) * c.g + 128) / 256))
          | none => c.lladen
        let r : Int := max 0 (min 4096 (Int.tdiv ((l - c.lempty) * 4096) (c.lladen - c.lempty)))
        let f : Int := c.e + ((4096 - c.e) * r + 2048) / 4096
        let p : Int := if d ≤ g.knee then d else min (g.knee + ((d - g.knee) * f + 2048) / 4096) g.pmax
        ({ b := bellows.getD 0, l := l, r := r, f := f, pAxle := p
           source := if bellows.isSome then .sensed else .assumedLaden, valid := true } : Axle)
      let front := curve v.front (if v.bellowsUsed = true ∧ s.valid .bf = true then some (s.value .bf) else none)
      let rear := curve v.rear
        (if s.valid .bl = true ∧ s.valid .br = true then some (Int.tdiv (s.value .bl + s.value .br) 2)
         else if s.valid .bl = true then some (s.value .bl)
         else if s.valid .br = true then some (s.value .br) else none)
      t.ldu.rear = rear ∧ t.ldu.front = { front with pAxle := t.ldu.front.pAxle } ∧
      (t.ldu.front.pAxle = 0 ∨ t.ldu.front.pAxle = front.pAxle) ∧
      (t.lfc.state.isUp = true ∨ (s.lfc.state.isUp = true ∧ v.kind = .lift) → t.ldu.front.pAxle = 0) ∧
      (s.lfc.state.isUp = false → t.lfc.state.isUp = false → t.ldu.front.pAxle = front.pAxle)

/-- R19, R22, R25, R26, R52, R88, R153, R164, R165: what an LDU period may change at all, and where it stores: its own
section, those of lift, modulator, slip, air and device, and the journal. The next expiry counts from the time of the
command, also when that is late (log 4, the model's choice). The period rewrites its own section and that of lift, and
hands these records alone, in this order (log 13 between blocks): SLIP_EPISODE of the episodes that a source becoming
NONE closes, DEMAND_STALE or DEMAND_FRESH, MISMATCH, TAKE of VEHICLE with DEVICE_STATE, TAKE of LOAD, LIFT_MOVE of a
move completed or aborted, and ALLOWANCE of the last LIFT grant. That the lift section is rewritten at each period,
also under a FIXED group, is log 25, the model's reading. -/
def Obligations.LduPeriodFrame : Prop :=
  ∀ (dt : Nat) (s : State), ∃ t, exec (.lduPeriodExpiry dt) s = .next t ∧
    t = { s.elapse dt with
      ldu := t.ldu, lfc := t.lfc, wsu := { s.wsu with wheels := t.wsu.wheels }, aac := t.aac
      mdu := t.mdu, scu := t.scu, xpt := t.xpt
      mem := t.mem, jrw := t.jrw, atc := t.atc, health := t.health } ∧
    sameOutside [.demand, .lift, .modulator, .slip, .air, .device, .journal] s t ∧
    (s.isRunning = false ∨ ¬dueAt s.ldu.due (s.uptime + dt) → t = s.elapse dt) ∧
    (s.isRunning = true → dueAt s.ldu.due (s.uptime + dt) →
      t.ldu.due = some (s.uptime + dt + 10000) ∧ t.ldu.lastPeriod = t.ms ∧
      rewrote s t .demand t.demandBody ∧ rewrote s t .lift t.liftBody ∧
      recorded (s.elapse dt) t (lduRecords s t) ∧
      (s.ldu.demand.source = .none ∨ t.ldu.demand.source ≠ .none →
        sameOutside [.demand, .lift, .air, .device, .journal] s t))

/-- R37, R38, R53, R164, R165: at an LDU period a pending VEHICLE group and a pending LOAD group are taken when D is 0 and
the stage QUIET or WATCH, and at no other. An accepted group comes into force and a refused one changes nothing; an
accepted VEHICLE group makes UNCONFIGURED ACTIVE, and one that declares the axle FIXED puts the lift record at
LOWERED. A group that is not pending stays. -/
def Obligations.LduTakes : Prop :=
  ∀ (dt : Nat) (s : State), s.isRunning = true → dueAt s.ldu.due (s.uptime + dt) →
    ∃ t, exec (.lduPeriodExpiry dt) s = .next t ∧
      let safe := t.ldu.demand.d = 0 ∧ (s.rou.stage = .quiet ∨ s.rou.stage = .watch)
      let vehicle := s.vehicleVerdict
      let load := s.loadVerdict
      (s.isPending .vehicle = false ∨ ¬safe ∨ vehicle.1.isAccepted = false →
        t.ldu.vehicle = s.ldu.vehicle ∧ t.xpt.device = s.xpt.device) ∧
      (s.isPending .vehicle = true → ¬safe → t.isPending .vehicle = true) ∧
      (s.isPending .vehicle = true → safe → taken s t .vehicle vehicle.1 ∧ (vehicle.1.isAccepted = true →
        t.ldu.vehicle = some (VehicleGroup.ofFields vehicle.2) ∧ t.xpt.device = .active ∧
        (s.xpt.device = .unconfigured → ∀ c, (t.chan c).causes.notActive = false) ∧
        ((VehicleGroup.ofFields vehicle.2).kind = .fixed → t.lfc.state = .lowered ∧ t.lfc.valve = false ∧
          t.lfc.moveTimer = none ∧ t.lfc.moveStart = none ∧ t.lfc.dwellStart = none))) ∧
      (s.isPending .load = false ∨ ¬safe ∨ load.1.isAccepted = false → t.ldu.load = s.ldu.load) ∧
      (s.isPending .load = true → ¬safe → t.isPending .load = true) ∧
      (s.isPending .load = true → safe → taken s t .load load.1 ∧
        (load.1.isAccepted = true → t.ldu.load = LoadGroup.ofFields load.2))

/-- R38 (as every group's chapter gives it): the verdict on a group of as many words as its check column. Clamped fields
lie in their ranges; ACCEPTED means that no word was clamped and no refusal check failed, ACCEPTED_CLAMPED n that n >
0 words were; REFUSED names the first check, in the order given, that fails on the clamped words. Then Tables 2.9,
2.10 with 3.4, 5.5, 6.6, 7.4, 8.4 and 9.2 in their own numbers: the words of each group at its base (Table 10.2), the
clamped fields with their ranges, the refusal checks by the index they report, and the field that each setting of the
accepted group takes. Entry k of a TYRE roster lies at 9 + 4k, and the entries below the clamped count alone are
judged. -/
def Obligations.ValidationVerdict : Prop :=
  (∀ (checks : List FieldCheck) (refusals : List Nat → List (Nat × Bool)) (ws : List Nat), ws.length = checks.length →
    let v := validate checks refusals ws
    v.2.length = ws.length ∧
    (∀ k lo hi, checks[k]? = some (.clamped lo hi) → lo ≤ hi → lo ≤ field v.2 k ∧ field v.2 k ≤ hi) ∧
    (∀ k, checks[k]? = some .asWritten → field v.2 k = field ws k) ∧
    (v.1 = .accepted → v.2 = ws ∧ ∀ r ∈ refusals v.2, r.2 = false) ∧
    (∀ n, v.1 = .acceptedClamped n → 0 < n ∧ (∀ r ∈ refusals v.2, r.2 = false) ∧
      n = ((List.range ws.length).filter (fun k => decide (field v.2 k ≠ field ws k))).length) ∧
    ∀ i, v.1 = .refused i → ∃ before after, refusals v.2 = before ++ (i, true) :: after ∧ ∀ r ∈ before, r.2 = false) ∧
  ∀ s : State,
    (let f := field s.vehicleVerdict.2;
      s.judgedBy 0x0000 22
        [(2, 0, 600), (3, 0, 2000), (4, 0, 4095), (5, 0, 2000), (6, 0, 2000), (8, 0, 600), (9, 0, 2000), (10, 0, 4095),
          (11, 0, 2000), (12, 0, 2000), (14, 1000, 5000), (15, 20, 250)]
        (fun i => (i = 0 ∧ 1 < f 0) ∨ (i = 1 ∧ (1 < f 1 ∨ (f 0 = 1 ∧ f 1 = 0))) ∨ (i = 6 ∧ f 6 ≤ f 5) ∨
          (i = 7 ∧ (f 7 < 819 ∨ 4096 < f 7)) ∨ (i = 12 ∧ f 12 ≤ f 11) ∨ (i = 13 ∧ (f 13 < 819 ∨ 4096 < f 13)) ∨
          (16 ≤ i ∧ i ≤ 21 ∧ 1 < f i)) s.vehicleVerdict ∧
      VehicleGroup.ofFields s.vehicleVerdict.2 =
        { kind := if f 0 = 1 then .lift else .fixed, bellowsUsed := decide (f 1 = 1)
          front := { b0 := f 2, l0 := f 3, g := f 4, lempty := f 5, lladen := f 6, e := f 7 }
          rear := { b0 := f 8, l0 := f 9, g := f 10, lempty := f 11, lladen := f 12, e := f 13 }
          circumference := f 14, teeth := f 15
          fitted := { a1l := decide (f 16 = 1), a1r := decide (f 17 = 1), a2l := decide (f 18 = 1)
                      a2r := decide (f 19 = 1), a3l := decide (f 20 = 1), a3r := decide (f 21 = 1) } }) ∧
    (let f := field s.loadVerdict.2;
      s.judgedBy 0x0100 14
        [(0, 20, 500), (1, 50, 300), (2, 0, 50), (3, 0, 100), (4, 300, 1000), (6, 0, 4096), (7, 0, 4096),
          (8, 1000, 60000), (9, 50, 1000), (10, 10, 300), (11, 0, 200), (12, 1000, 20000), (13, 500, 10000)]
        (fun i => (i = 5 ∧ 1 < f 5) ∨ (i = 7 ∧ f 7 ≤ f 6) ∨ (i = 11 ∧ f 10 ≤ f 11)) s.loadVerdict ∧
      LoadGroup.ofFields s.loadVerdict.2 =
        { demandTimeout := f 0, mismatchLimit := f 1, releaseThreshold := f 2, knee := f 3, pmax := f 4
          autoMode := decide (f 5 = 1), raiseRatio := f 6, lowerRatio := f 7, raiseDelay := f 8, lowerDemand := f 9
          loweredConfirm := f 10, raisedConfirm := f 11, moveTimeout := f 12, raisedDwell := f 13 }) ∧
    (let f := field s.slipVerdict.2;
      let g := SlipGroup.ofFields s.slipVerdict.2
      let span := fun (code : Nat) => if code = 1 then Span.lower else if code = 2 then Span.upper else Span.all
      s.judgedBy 0x0200 27
        ([(0, 50, 500), (1, 50, 900), (2, 20, 800), (3, 10, 400), (4, 0, 400), (5, 10, 200), (6, 10, 200), (7, 0, 15)]
          ++ (List.range 16).map (fun k => (11 + k, 0, 255)))
        (fun i => (i = 2 ∧ f 1 ≤ f 2) ∨ (8 ≤ i ∧ i ≤ 10 ∧ 2 < f i) ∨ (12 ≤ i ∧ i ≤ 26 ∧ f i < f (i - 1))) s.slipVerdict ∧
      g = { vmin := f 0, ldump := f 1, lhold := f 2, adump := f 3, areaccel := f 4, holdTime := f 5, stepTime := f 6
            startIndex := f 7, spans := { front := span (f 8), left := span (f 9), right := span (f 10) }
            slope := g.slope } ∧
      g.slope.length = 16 ∧ ∀ k, k < 16 → g.slope.getD k 0 = f (11 + k)) ∧
    (let f := field s.valveVerdict.2;
      s.judgedBy 0x0300 8
        [(0, 5, 20), (1, 2, 50), (2, 16, 1024), (3, 16, 1024), (4, 2, 20), (5, 5, 30), (6, 50, 300), (7, 200, 5000)]
        (fun i => i = 4 ∧ (f 0 : Int) * 10 - f 5 ≤ f 4) s.valveVerdict ∧
      ValveGroup.ofFields s.valveVerdict.2 =
        { period := f 0, deadZone := f 1, kin := f 2, kout := f 3, minWidth := f 4, deadBand := f 5, trackingLimit := f 6
          trackingTime := f 7 }) ∧
    (let f := field s.rollVerdict.2;
      s.judgedBy 0x0400 18
        [(0, 100, 1500), (1, 100, 1500), (2, 0, 200), (3, 0, 4096), (4, 0, 4096), (5, 0, 4000), (6, 100, 1000),
          (7, 200, 60000), (8, 100, 1000), (9, 0, 200), (10, 0, 200), (11, 100, 1000), (12, 0, 1000), (13, 1, 200),
          (14, 0, 1000), (15, 0, 256), (16, 100, 5000), (17, 100, 5000)]
        (fun i => (i = 1 ∧ f 0 < f 1) ∨ (i = 4 ∧ f 4 < f 3) ∨ (i = 14 ∧ f 14 < f 12)) s.rollVerdict ∧
      RollGroup.ofFields s.rollVerdict.2 =
        { aEmpty := f 0, aLaden := f 1, sloshPenalty := f 2, sloshLow := f 3, sloshHigh := f 4, vrollMin := f 5
          transferLimit := f 6, testInterval := f 7, testDuration := f 8, pTest := f 9, testSuppress := f 10
          llift := f 11, pRollStart := f 12, rampStep := f 13, pRollMax := f 14, innerShare := f 15, releaseTime := f 16
          holdoffTime := f 17 }) ∧
    (let f := field s.tyreVerdict.2;
      let id := fun (k : Nat) => f (9 + 4 * k)
      let wheel := fun (k : Nat) => f (10 + 4 * k)
      let position := fun (k : Nat) => f (11 + 4 * k)
      s.judgedBy 0x0500 (9 + 4 * f 8)
        ([(0, 50, 95), (1, 60, 99), (2, 1, 200), (3, 60, 3600), (4, 0, 1024), (5, 0, 60), (6, 0, 60), (7, 0, 60),
          (8, 0, 12)] ++ (List.range (f 8)).map (fun k => (12 + 4 * k, 100, 1200)))
        (fun i => (i = 1 ∧ f 1 ≤ f 0) ∨ ∃ k, k < f 8 ∧
          ((i = 9 + 4 * k ∧ (id k = 0 ∨ id k = 0xFFFFFFFF ∨ ∃ j, j < k ∧ id j = id k)) ∨
            (i = 10 + 4 * k ∧ 5 < wheel k) ∨
            (i = 11 + 4 * k ∧ (2 < position k ∨ ∃ j, j < k ∧ wheel j = wheel k ∧
              (position j = position k ∨ position j = 0 ∨ position k = 0))))) s.tyreVerdict ∧
      TyreGroup.ofFields s.tyreVerdict.2 =
        { criticalPct := f 0, lowPct := f 1, leakThreshold := f 2, silentTime := f 3, kr := f 4, lowPenalty := f 5
          criticalPenalty := f 6, penaltyLimit := f 7, entryCount := f 8 }) ∧
    (let f := field s.airVerdict.2;
      s.judgedBy 0x0600 8
        [(0, 200, 900), (1, 100, 800), (2, 300, 1200), (3, 0, 50), (4, 0, 255), (5, 0, 255), (7, 10000, 600000)]
        (fun i => (i = 1 ∧ f 0 ≤ f 1) ∨ (i = 2 ∧ f 2 ≤ f 0) ∨ (i = 6 ∧ 1 < f 6)) s.airVerdict ∧
      AirGroup.ofFields s.airVerdict.2 =
        { reserve := f 0, critical := f 1, reload := f 2, hysteresis := f 3, testBase := f 4, liftBase := f 5
          autoReload := decide (f 6 = 1), interval := f 7 })

/-! ### Lift control -/

/-- R43, R47, R48, Table 3.2: at an LDU period in RAISING or RAISED under a front axle that is not FIXED (also in
UNCONFIGURED, with no VEHICLE group in force), the first lowering cause that holds lowers the axle with its valve off;
without one RAISED stays, and RAISING is confirmed by a BF at or below the raised-confirm pressure. D, the load ratio
and the request are those of this period. -/
def Obligations.LiftUpDecision : Prop :=
  ∀ (dt : Nat) (s : State), s.isRunning = true → dueAt s.ldu.due (s.uptime + dt) → s.lfc.state.isUp = true →
    ∃ t, exec (.lduPeriodExpiry dt) s = .next t ∧ ((∀ v, t.ldu.vehicle = some v → v.kind = .lift) →
      let g := t.ldu.load
      let request := t.ldu.demand.liftHanded
      let ratio := (g.autoMode = true ∧ request = .auto) ∧ t.ldu.rear.valid = true ∧ g.lowerRatio ≤ t.ldu.rear.r
      let demand := g.lowerDemand ≤ t.ldu.demand.d
      let reserve := s.lfc.state = .raising ∧ (s.valid .pres = false ∨ s.value .pres < s.aac.group.reserve)
      let lowered := fun (cause : MoveCause) => t.lfc.state = .lowering ∧ t.lfc.valve = false ∧ t.lfc.moveCause = cause ∧
        t.lfc.moveStart = some t.ms ∧ t.lfc.moveTimer = some (s.uptime + dt + g.moveTimeout.toNat * 1000) ∧
        t.lfc.lastResult = if s.lfc.state = .raising then some (.raise, .aborted) else s.lfc.lastResult
      (ratio → lowered .ratio) ∧
      (¬ratio → demand → lowered .demand) ∧
      (¬ratio → ¬demand → request = .lower → lowered .hostLower) ∧
      (¬ratio → ¬demand → request ≠ .lower → s.valid .bf = false → lowered .bfInvalid) ∧
      (¬ratio → ¬demand → request ≠ .lower → s.valid .bf = true → reserve → lowered .reserve) ∧
      (¬ratio → ¬demand → request ≠ .lower → s.valid .bf = true → ¬reserve →
        (s.lfc.state = .raised → t.lfc.state = .raised) ∧
        (s.lfc.state = .raising → g.raisedConfirm < s.value .bf →
          t.lfc.state = .raising ∧ t.lfc.moveTimer = s.lfc.moveTimer) ∧
        (s.lfc.state = .raising → s.value .bf ≤ g.raisedConfirm →
          t.lfc.state = .raised ∧ t.lfc.valve = true ∧ t.lfc.moveTimer = none ∧
            t.lfc.lastResult = some (.raise, .completed))))

/-- R34, R44, R45, R46, R50, R65: an LDU period under a front axle that is not FIXED, from UNKNOWN, LOWERED and LOWERING,
and the low-ratio run in every state. In UNKNOWN the axle is found down, or found up for the dwell and held when no
intervention and no lowering cause stands (of Table 3.2 without RESERVE: a low reservoir does not forbid the hold, log
22, the model's reading of R45); in LOWERED raise conditions 1 to 6 ask AAC for a LIFT grant, a refusal is counted and
a grant starts the raise; in LOWERING a BF at the lowered-confirm pressure completes the move. -/
def Obligations.LiftDownDecision : Prop :=
  ∀ (dt : Nat) (s : State), s.isRunning = true → dueAt s.ldu.due (s.uptime + dt) →
    ∃ t, exec (.lduPeriodExpiry dt) s = .next t ∧
      let g := t.ldu.load
      let l := t.lfc
      let request := t.ldu.demand.liftHanded
      let auto := g.autoMode = true ∧ request = .auto
      let since := fun (start : Time) => ((t.ms - start).toNat : Int)
      let bf := s.value .bf
      l.lowRatioStart = (if t.ldu.rear.valid = true ∧ t.ldu.rear.r ≤ g.raiseRatio then
        some (s.lfc.lowRatioStart.getD t.ms) else none) ∧
      ((∀ v, t.ldu.vehicle = some v → v.kind = .lift) →
        (s.lfc.state = .unknown →
          let ratio := auto ∧ t.ldu.rear.valid = true ∧ g.lowerRatio ≤ t.ldu.rear.r
          let start := s.lfc.dwellStart.getD t.ms
          let held := g.raisedDwell ≤ since start ∧ s.rou.stage ≠ .brake ∧ s.rou.stage ≠ .holdoff ∧
            ¬ratio ∧ t.ldu.demand.d < g.lowerDemand ∧ request ≠ .lower
          l.lastResult = s.lfc.lastResult ∧
          (s.valid .bf = true → g.loweredConfirm ≤ bf → l.state = .lowered ∧ l.valve = false ∧ l.dwellStart = none) ∧
          (s.valid .bf = true → bf < g.loweredConfirm → bf ≤ g.raisedConfirm → held →
            l.state = .raised ∧ l.valve = true ∧ l.dwellStart = none ∧ t.ldu.front.pAxle = 0 ∧
            t.wsu.wheels.a1l.included = false ∧ t.wsu.wheels.a1r.included = false ∧ t.aac = s.aac) ∧
          (s.valid .bf = true → bf < g.loweredConfirm → bf ≤ g.raisedConfirm → ¬held →
            l.state = .unknown ∧ l.dwellStart = some start) ∧
          (s.valid .bf = false ∨ (g.raisedConfirm < bf ∧ bf < g.loweredConfirm) →
            l.state = .unknown ∧ l.dwellStart = none)) ∧
        (s.lfc.state = .lowered →
          let held := ∃ start, l.lowRatioStart = some start ∧ g.raiseDelay ≤ since start
          let wanted := t.ldu.vehicle.isSome = true ∧ (auto ∨ request = .raise) ∧ held ∧ t.ldu.demand.d = 0 ∧
            s.rou.stage = .quiet ∧ s.valid .bf = true
          let granted := 0 < s.aac.lift.current ∧ s.valid .pres = true ∧ s.aac.group.reserve ≤ s.value .pres
          (¬wanted → l.state = .lowered ∧ t.aac = s.aac ∧ l.refusalCount = s.lfc.refusalCount ∧
            sameOutside [.demand, .lift, .modulator, .slip, .device, .journal] s t) ∧
          (wanted → rewrote s t .air t.airBody) ∧
          (wanted → ¬granted → l.state = .lowered ∧ l.refusalCount = min (s.lfc.refusalCount + 1) 65535 ∧
            t.aac.lift.current = s.aac.lift.current) ∧
          (wanted → granted → l.state = .raising ∧ l.valve = true ∧
            l.moveStart = some t.ms ∧ l.moveTimer = some (s.uptime + dt + g.moveTimeout.toNat * 1000) ∧
            (auto → l.moveCause = .auto) ∧ (¬auto → l.moveCause = .hostRaise) ∧
            t.aac.lift.current = s.aac.lift.current - 1 ∧ t.ldu.front.pAxle = 0 ∧
            t.wsu.wheels.a1l.included = false ∧ t.wsu.wheels.a1r.included = false)) ∧
        (s.lfc.state = .lowering →
          (s.valid .bf = true → g.loweredConfirm ≤ bf → l.state = .lowered ∧ l.valve = false ∧ l.moveTimer = none ∧
            l.lastResult = some (.lower, .completed)) ∧
          (s.valid .bf = false ∨ bf < g.loweredConfirm → l.state = .lowering ∧ l.moveTimer = s.lfc.moveTimer ∧
            l.moveCause = s.lfc.moveCause ∧ l.lastResult = s.lfc.lastResult)))

/-- R51, R52: the move timer that is due in RAISING or LOWERING: UNKNOWN, valve off, the run's times absent, the timeout
counted, the LIFT_MOVE record and FAULT attention. The LIFT_MOVE record is the one record: Table 11.4 names LFC beside
FAULT records too, but no rule gives one (log 37, the model's choice). -/
def Obligations.MoveTimerExpiry : Prop :=
  ∀ (dt : Nat) (s : State), s.lfc.state = .raising ∨ s.lfc.state = .lowering →
    dueAt s.lfc.moveTimer (s.uptime + dt) →
    ∃ t, exec (.moveTimerExpiry dt) s = .next t ∧
      t = { s.elapse dt with lfc := t.lfc, mem := t.mem, jrw := t.jrw, atc := t.atc, health := t.health } ∧
      t.lfc = { s.lfc with
        state := .unknown, valve := false, moveStart := none, dwellStart := none, moveTimer := none
        lastResult := some (if s.lfc.state = .raising then .raise else .lower, .timeout)
        timeoutCount := min (s.lfc.timeoutCount + 1) 65535 } ∧
      t.atc.pending.fault = true ∧ sameOutside [.lift, .journal] s t ∧
      rewrote s t .lift t.liftBody ∧
      recorded (s.elapse dt) t
        [moveRecord s t (if s.lfc.state = .raising then 1 else 2) 1]

/-! ### Wheel speed unit -/

/-- R59: an edge counts, sets the first edge time when absent and the last edge time, on its own wheel end alone; it is
ignored for a wheel end that is not fitted and in START and SAFE. -/
def Obligations.EdgeArrival : Prop :=
  ∀ (dt : Nat) (w : Wheel) (s : State), ∃ t, exec (.edgeArrival dt w) s = .next t ∧
    t = { s.elapse dt with wsu := { s.wsu with wheels := t.wsu.wheels } } ∧
    (∀ k, k ≠ w → t.wheel k = s.wheel k) ∧
    (s.isRunning = false ∨ (s.wheel w).fitted = false → t.wheel w = s.wheel w) ∧
    (s.isRunning = true → (s.wheel w).fitted = true → t.wheel w =
      { s.wheel w with edges := min ((s.wheel w).edges + 1) 255, firstEdge := some ((s.wheel w).firstEdge.getD t.us)
                       lastEdge := some t.us })

/-- R58, R69, R91, R92: the frame of a window: WSU, SCU and MDU's records, a SLIP take, their sections and the journal;
the next window expires 10 ms later, counted from the time of the command also when that is late (log 4, the model's
choice); the reference speed comes from the candidate and the reference speed before it, and no channel changes its
mode or its causes. A pending SLIP group is taken when every channel is in PASS or OFF after its judgement, and at no
other window; an accepted one sets the start offsets. The window settles each exclusion set by Table 4.2, takes the
fitted flags of the VEHICLE group in force, clears the record of a wheel end that leaves FITTED, and has one that
comes back start from the cleared values. Both units' sections are rewritten, and MDU's only for a DUMP entry. The
records are those of the wheel sensors (R66 to R68; 0x0201 holds the speed found before the fault, log 38, the model's
choice), SLIP_EPISODE of each episode that closes (R88) and TAKE of SLIP, in this order. The order between the records
of different blocks is log 13's. -/
def Obligations.WindowFrame : Prop :=
  ∀ (dt : Nat) (circuits : PerWheel Circuit) (s : State), ∃ t, exec (.windowExpiry dt circuits) s = .next t ∧
    t = { s.elapse dt with
      wsu := t.wsu, freeCount := t.freeCount, scu := t.scu, mdu := { s.mdu with channels := t.mdu.channels }
      xpt := t.xpt, mem := t.mem, jrw := t.jrw, atc := t.atc, health := t.health } ∧
    sameOutside [.wheels, .slip, .modulator, .device, .journal] s t ∧
    (s.isRunning = false ∨ ¬dueAt s.wsu.due (s.uptime + dt) → t = s.elapse dt) ∧
    (s.isRunning = true → dueAt s.wsu.due (s.uptime + dt) →
      t.wsu.due = some (s.uptime + dt + 10000) ∧ t.wsu.vref = max t.wsu.candidate (s.wsu.vref - 8) ∧
      (t.wsu.ramp = true ↔ t.wsu.candidate < s.wsu.vref - 8) ∧
      (∀ c, (t.chan c).mode = (s.chan c).mode ∧ (t.chan c).causes = (s.chan c).causes) ∧
      rewrote s t .wheels t.wheelBody ∧ rewrote s t .slip t.slipBody ∧
      ((∀ c, (s.slip c).state = .dump ∨ (t.slip c).state ≠ .dump) → sameOutside [.wheels, .slip, .device, .journal] s t) ∧
      (∀ w,
        let r := s.wheel w
        let n := t.wheel w
        let fitted := match s.ldu.vehicle with
          | none => true
          | some v => v.fitted.get w
        n.fitted = fitted ∧ (n.excl.notFitted = true ↔ fitted = false) ∧
        (n.excl.sensorFault = true ↔ fitted = true ∧ (r.sensor = .fault ∨ n.sensor = .fault)) ∧
        (n.excl.lifted = true ↔ (w = .a1l ∨ w = .a1r) ∧ (s.lfc.state = .raising ∨ s.lfc.state = .raised)) ∧
        (n.excl.flatTyre = true ↔ fitted = true ∧ (s.tyu.exports.get w).flat = true) ∧
        (n.included = true ↔ n.excl = { notFitted := false, sensorFault := false, lifted := false, flatTyre := false }) ∧
        (r.fitted = true → fitted = false → n = { r with
          fitted := false, v := 0, c := 0, vc := 0, aw := 0, slip := 0, edges := 0, firstEdge := none, lastEdge := none
          prevVc := none, zeroStart := none, recoveryStart := none, sensor := .ok, faultKind := none
          excl := n.excl, included := false }) ∧
        (s.wheelLaw → r.fitted = false → fitted = true → circuits.get w = .closed →
          n.v = 0 ∧ n.vc = 0 ∧ n.aw = 0 ∧ n.edges = 0 ∧ n.firstEdge = none ∧ n.lastEdge = none ∧
          n.recoveryStart = none ∧ n.sensor = .ok ∧ n.faultKind = none)) ∧
      (∃ speed : Wheel → Int, (∀ w, (s.wheel w).hasSpeed t.wsu.travel t.us (speed w)) ∧
        recorded (s.elapse dt) t (wheelRecords s t circuits speed ++ Channel.all.flatMap (windowCloses s t)
          ++ takenRecords s t .slip)) ∧
      let safe := ∀ c, (t.slip c).state = .pass ∨ (t.slip c).state = .off
      let slip := s.slipVerdict
      (s.isPending .slip = false ∨ ¬safe ∨ slip.1.isAccepted = false → t.scu.group = s.scu.group) ∧
      (s.isPending .slip = true → ¬safe → t.isPending .slip = true) ∧
      (s.isPending .slip = true → safe → taken s t .slip slip.1 ∧ (slip.1.isAccepted = true →
        t.scu.group = SlipGroup.ofFields slip.2 ∧ ∀ c, (t.slip c).offset = t.scu.group.startIndex %
          (if t.scu.group.spans.get c = .all then 16 else 8))))

/-- R60 to R63: a wheel end that stays fitted, in order and with its circuit closed, at a window: travel per tooth, the
raw speed by tooth timing from two or more edges, the drawn-down speed without (no time since the last edge gives a
free bound, log 20), then radius factor, corrected speed, acceleration, and the cleared count. -/
def Obligations.RawSpeed : Prop :=
  ∀ (dt : Nat) (circuits : PerWheel Circuit) (w : Wheel) (s : State), s.isRunning = true →
    dueAt s.wsu.due (s.uptime + dt) → (s.wheel w).fitted = true → (∀ v, s.ldu.vehicle = some v → v.fitted.get w = true) →
    (s.wheel w).sensor = .ok → circuits.get w = .closed →
    ∃ t, exec (.windowExpiry dt circuits) s = .next t ∧
      let r := s.wheel w
      let n := t.wheel w
      let travel : Int := match s.ldu.vehicle with
        | none => 32000
        | some v => Int.tdiv (v.circumference * 1000) v.teeth
      let c := (s.tyu.exports.get w).factor
      t.wsu.travel = travel ∧ n.c = c ∧ n.vc = (n.v * c + 2048) / 4096 ∧
      n.edges = 0 ∧ n.firstEdge = none ∧ n.lastEdge = r.lastEdge ∧
      (n.sensor = .ok → n.aw = (match r.prevVc with
        | none => 0
        | some p => (n.vc - p) * 10)) ∧
      r.hasSpeed travel t.us n.v

/-- R69, R70: the candidate is the second highest corrected speed of the INCLUDED wheel ends, the one's own when there is
one, 0 when there is none; vref falls by at most 8 counts at a window and the ramp flag says when it did. The slip of
every wheel end at step 7. A window does both: its candidate, count, vref and ramp flag are those of the wheel ends
INCLUDED at its step 5 and their corrected speeds, a wheel end that step 8 then declares ZERO_SPEED among them, and
each slip is that of this vref and this corrected speed. -/
def Obligations.ReferenceSpeedAndSlip : Prop :=
  (∀ s : State,
    let t := s.computeReference
    let c := t.wsu.candidate
    isCandidate (fun w => (s.wheel w).included = true) (fun w => (s.wheel w).vc) c ∧
    (s.wsu.vref - 8 ≤ c → t.wsu.vref = c ∧ t.wsu.ramp = false) ∧
    (c < s.wsu.vref - 8 → t.wsu.vref = s.wsu.vref - 8 ∧ t.wsu.ramp = true) ∧
    t.wsu.includedCount = (Wheel.all.filter (fun w => (s.wheel w).included)).length) ∧
  (∀ (s : State) (w : Wheel),
    let r := s.wheel w
    let t := s.computeSlips
    (r.fitted = false ∨ r.sensor = .fault ∨ s.wsu.vref < s.scu.group.vmin ∨ s.wsu.vref ≤ r.vc →
      (t.wheel w).slip = 0) ∧
    (r.fitted = true → r.sensor = .ok → s.scu.group.vmin ≤ s.wsu.vref → r.vc < s.wsu.vref →
      (t.wheel w).slip = Int.tdiv ((s.wsu.vref - r.vc) * 1000) s.wsu.vref) ∧
    t = { s with wsu := { s.wsu with wheels := t.wsu.wheels } } ∧ t.wheel w = { r with slip := (t.wheel w).slip }) ∧
  ∀ (dt : Nat) (circuits : PerWheel Circuit) (s : State), s.isRunning = true → dueAt s.wsu.due (s.uptime + dt) →
    ∃ t, exec (.windowExpiry dt circuits) s = .next t ∧
      let vref := t.wsu.vref
      let declared := fun (w : Wheel) => (s.wheel w).sensor = .ok ∧ (t.wheel w).faultKind = some .zeroSpeed
      let counts := fun (w : Wheel) => (t.wheel w).included = true ∨ (declared w ∧
        (t.wheel w).excl = { notFitted := false, sensorFault := true, lifted := false, flatTyre := false })
      isCandidate counts (fun w => (t.wheel w).vc) t.wsu.candidate ∧
      t.wsu.includedCount = (Wheel.all.filter (fun w => decide (counts w))).length ∧
      (s.wsu.vref - 8 ≤ t.wsu.candidate → vref = t.wsu.candidate ∧ t.wsu.ramp = false) ∧
      (t.wsu.candidate < s.wsu.vref - 8 → vref = s.wsu.vref - 8 ∧ t.wsu.ramp = true) ∧
      ∀ w, (t.wheel w).slip =
        if (t.wheel w).fitted = false ∨ (s.wheel w).sensor = .fault ∨ circuits.get w = .opened ∨
          vref < s.scu.group.vmin ∨ vref ≤ (t.wheel w).vc then 0
        else Int.tdiv ((vref - (t.wheel w).vc) * 1000) vref

/-- R64, R66, R67, R68: the sensor of a fitted wheel end at a window. In order with an OPEN circuit it is in FAULT by
OPEN_CIRCUIT from that window, without speed and EXCLUDED, with FAULT pending. In order and closed, a zero-speed
condition that has run for 2000 ms puts it into FAULT by ZERO_SPEED, EXCLUDED at once, and v, vc, a_w and the previous
vc go in the same event (log 28, the model's reading of R66). In FAULT it recovers after good windows for 1000 ms,
EXCLUDED still until the next window. -/
def Obligations.WheelSensorFaults : Prop :=
  ∀ (dt : Nat) (circuits : PerWheel Circuit) (w : Wheel) (s : State), s.isRunning = true →
    dueAt s.wsu.due (s.uptime + dt) → (s.wheel w).fitted = true → (∀ v, s.ldu.vehicle = some v → v.fitted.get w = true) →
    ∃ t, exec (.windowExpiry dt circuits) s = .next t ∧
      let r := s.wheel w
      let n := t.wheel w
      let since := fun (start : Time) => (t.ms - start).toNat
      let declared := fun (kind : WheelFault) => n.sensor = .fault ∧ n.faultKind = some kind ∧
        n.faultCount = min (r.faultCount + 1) 65535 ∧ n.included = false ∧ n.excl.sensorFault = true ∧ n.v = 0 ∧
        n.vc = 0 ∧ n.aw = 0 ∧ n.prevVc = none ∧ n.zeroStart = none ∧ n.recoveryStart = none ∧ t.atc.pending.fault = true
      let channel : Channel := match w with
        | .a1l | .a1r => .front
        | .a2l | .a3l => .left
        | .a2r | .a3r => .right
      let stands := n.excl.lifted = false ∧ n.v = 0 ∧ 500 ≤ t.wsu.vref ∧ (s.slip channel).state ≠ .dump
      let good := circuits.get w = .closed ∧ 2 ≤ r.edges
      n.circuit = circuits.get w ∧
      (r.sensor = .ok → circuits.get w = .opened → declared .openCircuit ∧ n.slip = 0) ∧
      (r.sensor = .ok → circuits.get w = .closed →
        (¬stands → n.sensor = .ok ∧ n.zeroStart = none) ∧
        (stands → r.zeroStart = none → n.sensor = .ok ∧ n.zeroStart = some t.ms) ∧
        (∀ start, stands → r.zeroStart = some start →
          (since start < 2000 → n.sensor = .ok ∧ n.zeroStart = some start) ∧
          (2000 ≤ since start → declared .zeroSpeed))) ∧
      (r.sensor = .fault → n.included = false ∧ n.v = 0 ∧ n.vc = 0 ∧ n.slip = 0 ∧ n.faultCount = r.faultCount ∧
        (¬good → n.sensor = .fault ∧ n.recoveryStart = none) ∧
        (good → r.recoveryStart = none → n.sensor = .fault ∧ n.recoveryStart = some t.ms) ∧
        (∀ start, good → r.recoveryStart = some start →
          (since start < 1000 → n.sensor = .fault ∧ n.recoveryStart = some start) ∧
          (1000 ≤ since start → n.sensor = .ok ∧ n.faultKind = none ∧ n.recoveryStart = none)))

/-! ### Slip control unit -/

/-- R75 to R84, R87, R103: a channel at a window. Its controlling wheel is the INCLUDED one with the higher slip, the
lower index on a tie. Without one, or in BACKUP, the channel is OFF; out of OFF it enters PASS; an open episode closes
into PASS when D is 0 or vref below vmin. Otherwise: from PASS the dump condition takes the DUMP entry, deferred and
counted while a test pulse is in flight; DUMP enters HOLD on spin-up or recovery; HOLD dumps again at the dump level;
REBUILD dumps again on the dump condition with its offset 2 lower. A DUMP entry locks Pd and is handed to MDU; nothing
else changes the channel's record at MDU. That at the hand-over an opening whose time has not come waits, and a dump
replaces a waiting pulse, is log 24, and that its times are whole 0.1 ms since the reset is log 6: the model's
readings. Slip, acceleration and vref are those this window computed. -/
def Obligations.SlipChannelAtAWindow : Prop :=
  ∀ (dt : Nat) (circuits : PerWheel Circuit) (c : Channel) (s : State), s.isRunning = true →
    dueAt s.wsu.due (s.uptime + dt) →
    ∃ t, exec (.windowExpiry dt circuits) s = .next t ∧
      let g := s.scu.group
      let r := s.slip c
      let n := t.slip c
      let wheels : Wheel × Wheel := match c with
        | .front => (.a1l, .a1r)
        | .left => (.a2l, .a3l)
        | .right => (.a2r, .a3r)
      let first := t.wheel wheels.1
      let second := t.wheel wheels.2
      let episode := r.state = .dump ∨ r.state = .hold ∨ r.state = .rebuild
      let released := s.ldu.demand.d = 0 ∨ t.wsu.vref < g.vmin
      let rests := n.pSlip = s.pmax ∧ n.holdTimer = none ∧ n.stepTimer = none ∧ t.chan c = s.chan c ∧
        (episode → n.episodeStart = none ∧ n.minPd = none ∧ n.dumps = 0 ∧ n.episodes = min (r.episodes + 1) 65535 ∧
          t.atc.pending.slip = true)
      (first.included = true → second.included = true →
        n.wheel = some (if first.slip < second.slip then wheels.2 else wheels.1)) ∧
      (first.included = true → second.included = false → n.wheel = some wheels.1) ∧
      (first.included = false → second.included = true → n.wheel = some wheels.2) ∧
      (first.included = false → second.included = false → n.wheel = none) ∧
      (n.wheel = none ∨ (s.chan c).mode = .backup → n.state = .off ∧ rests ∧ (r.state = .pass → n.suppressed = false)) ∧
      ∀ w, n.wheel = some w → (s.chan c).mode = .regulate →
        let slip := (t.wheel w).slip
        let aw := (t.wheel w).aw
        let condition := g.vmin ≤ t.wsu.vref ∧ 0 < s.ldu.demand.d ∧
          (g.ldump ≤ slip ∨ (g.lhold ≤ slip ∧ aw ≤ -g.adump))
        let inFlight := (c = .left ∧ s.rou.testChannel = some .left) ∨ (c = .right ∧ s.rou.testChannel = some .right)
        let lowest := some (min (r.minPd.getD (s.pd c)) (s.pd c))
        let enters := n.state = .dump ∧ n.pSlip = 0 ∧ n.lock = s.pd c ∧ n.holdTimer = none ∧ n.stepTimer = none ∧
          dumpHandedOver s t c (((s.uptime + dt) / 100 : Nat) : Int)
        let again := enters ∧ n.dumps = min (r.dumps + 1) 65535 ∧ n.minPd = lowest ∧ n.episodeStart = r.episodeStart
        (r.state = .off → n.state = .pass ∧ n.pSlip = s.pmax ∧ n.suppressed = false ∧ t.chan c = s.chan c) ∧
        (episode → released → n.state = .pass ∧ rests) ∧
        (r.state = .pass →
          (¬condition → n.state = .pass ∧ n.pSlip = s.pmax ∧ (¬inFlight → n.suppressed = false) ∧ t.chan c = s.chan c) ∧
          (condition → inFlight → n.state = .pass ∧ n.pSlip = s.pmax ∧ n.suppressed = true ∧
            n.deferrals = min (r.deferrals + 1) 65535 ∧ t.chan c = s.chan c) ∧
          (condition → ¬inFlight → enters ∧ n.dumps = 1 ∧ n.minPd = some (s.pd c) ∧ n.episodeStart = some t.ms ∧
            n.suppressed = false)) ∧
        (r.state = .dump → ¬released → t.chan c = s.chan c ∧ n.minPd = lowest ∧
          (g.areaccel ≤ aw ∨ slip < g.lhold → n.state = .hold ∧ n.pSlip = s.pd c ∧
            n.holdTimer = some (s.uptime + dt + g.holdTime.toNat * 1000)) ∧
          (aw < g.areaccel → g.lhold ≤ slip → n.state = .dump ∧ n.pSlip = 0)) ∧
        (r.state = .hold → ¬released → (g.ldump ≤ slip → again) ∧
          (slip < g.ldump → n.state = .hold ∧ n.pSlip = r.pSlip ∧ n.holdTimer = r.holdTimer ∧ n.lock = r.lock ∧
            n.minPd = lowest ∧ t.chan c = s.chan c)) ∧
        (r.state = .rebuild → ¬released → (condition → again ∧ n.offset = r.offset - 2) ∧
          (¬condition → n.state = .rebuild ∧ n.pSlip = r.pSlip ∧ n.index = r.index ∧ n.stepTimer = r.stepTimer ∧
            n.minPd = lowest ∧ t.chan c = s.chan c))

/-- R84, R85: the hold timer that is due in HOLD: below the hold level the channel enters REBUILD at its start offset
with the limit of R85 and the step timer, otherwise the hold timer starts again and nothing is stored (log 34, the
model's reading of R93). SCU's own section alone is stored to. -/
def Obligations.HoldTimerExpiry : Prop :=
  ∀ (dt : Nat) (c : Channel) (s : State), (s.slip c).state = .hold → dueAt (s.slip c).holdTimer (s.uptime + dt) →
    ∃ t, exec (.holdTimerExpiry dt c) s = .next t ∧
      t = { s.elapse dt with scu := { s.scu with channels := t.scu.channels }, mem := t.mem } ∧
      (∀ k, k ≠ c → t.slip k = s.slip k) ∧ sameOutside [.slip] s t ∧
      let g := s.scu.group
      let slipNow : Int := match (s.slip c).wheel with
        | none => 0
        | some w => (s.wheel w).slip
      let index := (if g.spans.get c = .upper then 8 else 0) + (s.slip c).offset
      (slipNow < g.lhold → t.slip c = { s.slip c with
        state := .rebuild, index := index, holdTimer := none
        pSlip := ((s.slip c).lock * g.slope.getD index 0 + 128) / 256
        stepTimer := some (s.uptime + dt + g.stepTime.toNat * 1000) } ∧ rewrote s t .slip t.slipBody) ∧
      (g.lhold ≤ slipNow → t.mem = s.mem ∧
        t.slip c = { s.slip c with holdTimer := some (s.uptime + dt + g.holdTime.toNat * 1000) })

/-- R85, R86, R88: the step timer that is due in REBUILD: below the top of the span the rebuild goes one entry on,
without attention; at the top the episode closes by autostop into PASS, counted, with its record and SLIP attention. -/
def Obligations.StepTimerExpiry : Prop :=
  ∀ (dt : Nat) (c : Channel) (s : State), (s.slip c).state = .rebuild → dueAt (s.slip c).stepTimer (s.uptime + dt) →
    ∃ t, exec (.stepTimerExpiry dt c) s = .next t ∧
      t = { s.elapse dt with
        scu := { s.scu with channels := t.scu.channels }, mem := t.mem, jrw := t.jrw, atc := t.atc, health := t.health } ∧
      (∀ k, k ≠ c → t.slip k = s.slip k) ∧ sameOutside [.slip, .journal] s t ∧ rewrote s t .slip t.slipBody ∧
      let g := s.scu.group
      let r := s.slip c
      let top := if g.spans.get c = .lower then 7 else 15
      let length := if g.spans.get c = .all then 16 else 8
      (r.index < top → t = { s.elapse dt with scu := t.scu, mem := t.mem } ∧ t.slip c = { r with
        index := r.index + 1, pSlip := (r.lock * g.slope.getD (r.index + 1) 0 + 128) / 256
        stepTimer := some (s.uptime + dt + g.stepTime.toNat * 1000) }) ∧
      (top ≤ r.index → t.atc.pending.slip = true ∧ t.slip c = { r with
        state := .pass, pSlip := s.pmax, stepTimer := none, holdTimer := none, episodeStart := none, minPd := none
        dumps := 0, offset := g.startIndex % length, episodes := min (r.episodes + 1) 65535 } ∧
        recorded (s.elapse dt) t (closedRecords s t c 0))

/-- R86, R84, R7, R8, R12, R19, R51, R58, R97, R101, R102, R117, R137, R143: an expiry that is not due, or of a timer that
is not running, changes nothing but the time (log 3). An opening that waits (log 24) and a pulse end have their times
in 0.1 ms (log 6); before its time each does nothing, nor does an opening with a valve energised or in BACKUP, or a
pulse end with both valves off. The stale and the recovery timer of an input are one field, and the expiry of the one
does nothing in the states of the other; likewise the move, hold and step timer outside their states, and the periodic
expiries in START and SAFE. -/
def Obligations.NotDueDoesNothing : Prop :=
  ∀ (dt : Nat) (s : State) (i : Input) (c : Channel) (circuits : PerWheel Circuit),
    let now := s.uptime + dt
    let tenths : Int := ((now / 100 : Nat) : Int)
    let idle := fun (e : Instr) => exec e s = .next (s.elapse dt)
    (¬dueAt s.load.due now → idle (.loadCompletion dt)) ∧
    (¬dueAt (s.entry i).timer now → idle (.staleTimerExpiry dt i) ∧ idle (.recoveryTimerExpiry dt i)) ∧
    (¬dueAt s.sfe.sectionDue now → idle (.sfeSectionTimerExpiry dt)) ∧
    (¬dueAt s.ldu.due now → idle (.lduPeriodExpiry dt)) ∧
    (¬dueAt s.lfc.moveTimer now → idle (.moveTimerExpiry dt)) ∧
    (¬dueAt s.wsu.due now → idle (.windowExpiry dt circuits)) ∧
    (¬dueAt (s.slip c).holdTimer now → idle (.holdTimerExpiry dt c)) ∧
    (¬dueAt (s.slip c).stepTimer now → idle (.stepTimerExpiry dt c)) ∧
    (¬dueAt s.mdu.due now → idle (.valvePeriodExpiry dt)) ∧
    ((s.chan c).opening = none → idle (.pulseOpening dt c) ∧ idle (.dumpOutletOpening dt c)) ∧
    ((s.chan c).pulseEnd = none → idle (.pulseEnd dt c)) ∧
    (¬dueAt s.rou.due now → idle (.evaluationExpiry dt)) ∧
    (¬dueAt s.tyu.gapTimer now → idle (.gapTimerExpiry dt)) ∧
    (¬dueAt s.tyu.due now → idle (.silenceScan dt)) ∧
    ((s.entry i).state = .valid ∨ (s.entry i).state = .fault → idle (.staleTimerExpiry dt i)) ∧
    ((s.entry i).state ≠ .fault → idle (.recoveryTimerExpiry dt i)) ∧
    (s.lfc.state ≠ .raising → s.lfc.state ≠ .lowering → idle (.moveTimerExpiry dt)) ∧
    ((s.slip c).state ≠ .hold → idle (.holdTimerExpiry dt c)) ∧
    ((s.slip c).state ≠ .rebuild → idle (.stepTimerExpiry dt c)) ∧
    (∀ o, (s.chan c).opening = some o → tenths < o.opensAt → idle (.pulseOpening dt c) ∧ idle (.dumpOutletOpening dt c)) ∧
    ((s.chan c).phase ≠ .closed ∨ (s.chan c).mode = .backup →
      idle (.pulseOpening dt c) ∧ idle (.dumpOutletOpening dt c)) ∧
    (∀ e, (s.chan c).pulseEnd = some e → tenths < e → idle (.pulseEnd dt c)) ∧
    ((s.chan c).phase = .closed → idle (.pulseEnd dt c)) ∧
    (s.isRunning = false → idle (.sfeSectionTimerExpiry dt) ∧ idle (.lduPeriodExpiry dt) ∧
      idle (.windowExpiry dt circuits) ∧ idle (.valvePeriodExpiry dt) ∧ idle (.evaluationExpiry dt) ∧
      idle (.silenceScan dt))

/-! ### Modulator drive -/

/-- R95, R97 to R101, R107, R113: a valve period changes MDU and SCU's records, takes of VALVE and CLEAR_FAULTS, their
sections and the journal alone, and the next one begins, as long as the group then in force says, from the time of the
command (log 4, the model's choice). A pending VALVE group is taken. Times are in 0.1 ms (log 6). A pulse due later
waits in `opening`, the expiry replaces an opening that waited, and a pulse still open is kept and none opened beside
it (log 24, the model's reading). A channel in REGULATE after it has read its contributions, the command pressure as
the least of them, the error, the pulse given or w 0, the pulse opened or waiting, and its tracking run; one in BACKUP
has none of these. Under the mode law a channel whose tracking run has lasted the tracking time gets TRACKING and its
unit enters BACKUP, but for RIGHT after LEFT. A unit in BACKUP whose cause sets are all empty returns to REGULATE at
the expiry, and one with a cause left stays in BACKUP, where no latched cause falls to a pending CLEAR_FAULTS (O36).
Under the mode law the records are TAKE of VALVE, those of a CLEAR_FAULTS carried out (R111), and those of each
TRACKING cause added (R88, R110), in this order. The order between the records of different blocks is log 13's. -/
def Obligations.ValvePeriod : Prop :=
  ∀ (dt : Nat) (s : State), ∃ t, exec (.valvePeriodExpiry dt) s = .next t ∧
    t = { s.elapse dt with
      mdu := t.mdu, scu := { s.scu with channels := t.scu.channels }, xpt := t.xpt, mem := t.mem, jrw := t.jrw
      atc := t.atc, health := t.health } ∧
    sameOutside [.device, .slip, .modulator, .journal] s t ∧
    (s.isRunning = true → dueAt s.mdu.due (s.uptime + dt) →
      let g := t.mdu.group
      let now : Int := (((s.uptime + dt) / 100 : Nat) : Int)
      let finish := now + g.period * 10
      let valve := s.valveVerdict
      let run := fun (c : Channel) => if s.unitMode (Channel.unit c) = .regulate then (s.chan c).trackingStart else none
      let cmd := fun (c : Channel) =>
        let asked := min (min (max (s.groupTarget c) (s.rollRequest c)) (s.slip c).pSlip) s.pmax
        if s.valid .pres = true then min asked (s.value .pres) else asked
      let e := fun (c : Channel) => cmd c - s.pd c
      let width := fun (c : Channel) =>
        let w := min (g.period * 10 - g.deadBand) ((magnitude (e c) * (if 0 < e c then g.kin else g.kout) + 128) / 256)
        if magnitude (e c) ≤ g.deadZone ∨ w < g.minWidth then 0 else w
      let due : Channel → Opening := fun c =>
        let v : Valve := if 0 < e c then .inlet else .outlet
        let opensAt := match (s.chan c).lastClosed with
          | none => now
          | some (u, closed) => if u = v then now else max now (closed + g.deadBand)
        { valve := v, opensAt := opensAt, endsAt := min (opensAt + width c) (finish - g.deadBand), dump := false }
      let given := fun (c : Channel) => width c ≠ 0 ∧ g.minWidth ≤ (due c).endsAt - (due c).opensAt
      let counts := fun (c : Channel) => g.trackingLimit < magnitude (e c) ∧ given c
      let declares := fun (c : Channel) => counts c ∧ (run c).isSome = true ∧
        g.trackingTime * 10 ≤ now - (run c).getD 0
      t.mdu.due = some (s.uptime + dt + g.period.toNat * 1000) ∧ t.mdu.periodEnd = some finish ∧
      (s.isPending .valve = false ∨ valve.1.isAccepted = false → g = s.mdu.group) ∧
      (s.isPending .valve = true → taken s t .valve valve.1 ∧
        (valve.1.isAccepted = true → g = ValveGroup.ofFields valve.2)) ∧
      (∀ c, (t.chan c).mode = .backup → (t.chan c).pCmd = 0 ∧ (t.chan c).e = 0 ∧ (t.chan c).w = 0 ∧
        (t.chan c).trackingStart = none) ∧
      (∀ c, (t.chan c).mode = .regulate →
        let r := t.chan c
        let asked := min (min (max r.pAxle r.pRoll) r.pSlip) s.pmax
        r.pAxle = (if c = .front then s.ldu.front.pAxle else s.ldu.rear.pAxle) ∧
        r.pRoll = (if c = .front ∧ s.lfc.state ≠ .lowered then 0 else s.rou.pRoll.get c) ∧
        r.pSlip = (s.slip c).pSlip ∧ r.pd = s.pd c ∧
        r.pCmd = (if s.valid .pres = true then min asked (s.value .pres) else asked) ∧
        r.e = r.pCmd - r.pd ∧ r.e = e c ∧
        (magnitude r.e ≤ g.deadZone → r.w = 0) ∧
        (given c → r.w = width c) ∧ (¬given c → r.w = 0) ∧ r.lastClosed = (s.chan c).lastClosed ∧
        ((s.chan c).phase ≠ .closed ∨ ¬given c →
          r.phase = (s.chan c).phase ∧ r.pulseEnd = (s.chan c).pulseEnd ∧ r.opening = none) ∧
        (s.modeLaw →
          ((s.chan c).phase = .closed → given c → (due c).opensAt ≤ now →
            r.phase = .energised (due c).valve ∧ r.pulseEnd = some (due c).endsAt ∧ r.opening = none) ∧
          ((s.chan c).phase = .closed → given c → now < (due c).opensAt →
            r.phase = .closed ∧ r.pulseEnd = (s.chan c).pulseEnd ∧ r.opening = some (due c)) ∧
          ¬declares c ∧ r.trackingStart = if counts c then some ((run c).getD now) else none)) ∧
      (s.modeLaw → ∀ c, (s.chan c).mode = .regulate →
        (declares c → (c = .right → ¬declares .left) →
          (t.chan c).causes.tracking = true ∧ (t.chan c).faultCount = min ((s.chan c).faultCount + 1) 65535 ∧
          t.health.valveFault = true ∧ t.atc.pending.fault = true ∧
          ∀ k, Channel.unit k = Channel.unit c → (t.chan k).mode = .backup ∧ (t.chan k).phase = .closed ∧
            (t.chan k).opening = none) ∧
        ((∀ k, Channel.unit k = Channel.unit c → ¬declares k) →
          (t.chan c).mode = .regulate ∧ (t.chan c).causes = (s.chan c).causes)) ∧
      t.shows .modulator t.modulatorBody ∧
      (s.modeLaw → recorded (s.elapse dt) t (takenRecords s t .valve ++ clearedRecords s t ++
        Channel.all.flatMap (fun c =>
          if declares c ∧ (c = .right → ¬declares .left) then causeRecords s t c .tracking else []))) ∧
      (s.modeLaw → (∀ c, (s.chan c).mode = .regulate → ¬declares c) → rewrote s t .modulator t.modulatorBody) ∧
      (s.modeLaw → ∀ c, (s.chan c).mode = .backup →
        let fellows := fun (k : Channel) => Channel.unit k = Channel.unit c
        (s.isPending .clearFaults = false ∨
          ∀ k x, fellows k → (s.chan k).causes.get x = true → x = .sourceNone ∨ x = .notActive) →
        ((∀ k x, fellows k → (s.chan k).causes.get x = false) →
          ∀ k, fellows k → (t.chan k).mode = .regulate ∧ (t.chan k).causes = (s.chan k).causes) ∧
        (∀ k x, fellows k → (s.chan k).causes.get x = true →
          ∀ j, fellows j → (t.chan j).mode = .backup ∧ (t.chan j).causes = (s.chan j).causes ∧
            (t.chan j).phase = .closed ∧ (t.chan j).opening = none)))

/-- R101, R102, R103: a waiting opening (log 24) whose time has come, in whole 0.1 ms since the reset (log 6), on a
channel in REGULATE with both valves off: that valve is energised until the pulse end found, and nothing else changes;
a pulse and a dump answer to their own commands. At the end of a pulse the valve is de-energised, last closed takes it
with its time, and nothing else changes. -/
def Obligations.PulsesOpenAndEnd : Prop :=
  (∀ (dt : Nat) (c : Channel) (o : Opening) (s : State), (s.chan c).opening = some o →
    o.opensAt ≤ (((s.uptime + dt) / 100 : Nat) : Int) → (s.chan c).phase = .closed → (s.chan c).mode = .regulate →
    ∃ t, exec (if o.dump = true then .dumpOutletOpening dt c else .pulseOpening dt c) s = .next t ∧
      t = { s.elapse dt with mdu := { s.mdu with channels := t.mdu.channels } } ∧
      t.chan c = { s.chan c with phase := .energised o.valve, pulseEnd := some o.endsAt, opening := none } ∧
      (∀ k, k ≠ c → t.chan k = s.chan k) ∧
      exec (if o.dump = true then .pulseOpening dt c else .dumpOutletOpening dt c) s = .next (s.elapse dt)) ∧
  ∀ (dt : Nat) (c : Channel) (v : Valve) (e : Int) (s : State), (s.chan c).phase = .energised v →
    (s.chan c).pulseEnd = some e → e ≤ (((s.uptime + dt) / 100 : Nat) : Int) →
    ∃ t, exec (.pulseEnd dt c) s = .next t ∧
      t = { s.elapse dt with mdu := { s.mdu with channels := t.mdu.channels } } ∧
      t.chan c = { s.chan c with
        phase := .closed, lastClosed := some (v, (((s.uptime + dt) / 100 : Nat) : Int)), pulseEnd := none } ∧
      ∀ k, k ≠ c → t.chan k = s.chan k

/-- R104, R105, R109, R110: a report of OPEN_LOAD or SHORT that is a passage, while the part runs, adds its cause, which
is not yet in the set: the whole unit is in BACKUP with both valves off, the fault is counted, VALVE_FAULT set and
FAULT pending. A report of OK, and any report in START and SAFE, updates the indication alone. The monitor at the pin
shows the report and no other monitor changes (R105; log 9 has the resets read them). The cause added hands the
SLIP_EPISODE records of the episodes that close, when the unit was in REGULATE, and its FAULT record with the mode
before (R88, R110; their order is log 13's); without one nothing is handed or stored. That a passage whose cause is in
the set already changes the indication alone is log 21, the model's reading. -/
def Obligations.DriverReport : Prop :=
  ∀ (dt : Nat) (c : Channel) (v : Valve) (i : Indication) (s : State),
    ∃ t, exec (.driverReport dt c v i) s = .next t ∧
      t = { s.elapse dt with
        pins := { s.pins with monitors := t.pins.monitors }, mdu := { s.mdu with channels := t.mdu.channels }
        scu := { s.scu with channels := t.scu.channels }, mem := t.mem, jrw := t.jrw, atc := t.atc, health := t.health } ∧
      sameOutside [.slip, .modulator, .journal] s t ∧ (t.chan c).indication v = i ∧
      (∀ k, t.pins.monitors.get k = if k = c then
        { inlet := if v = .inlet then i else (s.pins.monitors.get c).inlet
          outlet := if v = .outlet then i else (s.pins.monitors.get c).outlet }
        else s.pins.monitors.get k) ∧
      let adds := fun (cause : Cause) => s.isRunning = true ∧ (s.chan c).indication v ≠ i ∧
        (s.chan c).causes.get cause = false
      (i = .ok ∨ (∃ cause, driverCause v i = some cause ∧ ¬adds cause) → t = { s.elapse dt with
        pins := t.pins, mdu := { s.mdu with channels := s.mdu.channels.set c ((s.chan c).setIndication v i) } }) ∧
      (∀ cause, driverCause v i = some cause → adds cause → recorded (s.elapse dt) t (causeRecords s t c cause)) ∧
      (∀ cause, driverCause v i = some cause → adds cause → s.modeLaw →
        (t.chan c).causes.get cause = true ∧ (t.chan c).faultCount = min ((s.chan c).faultCount + 1) 65535 ∧
        t.health.valveFault = true ∧ t.atc.pending.fault = true ∧ rewrote s t .modulator t.modulatorBody ∧
        (t.scu.channels ≠ s.scu.channels → rewrote s t .slip t.slipBody) ∧
        ∀ k, Channel.unit k = Channel.unit c → (t.chan k).mode = .backup ∧ (t.chan k).trackingStart =
          (if (s.chan c).mode = .regulate then none else (s.chan k).trackingStart) ∧
          ((s.chan c).mode = .regulate → (t.chan k).phase = .closed ∧ (t.chan k).pulseEnd = none ∧
            (t.chan k).pCmd = 0 ∧ (t.chan k).e = 0 ∧ (t.chan k).w = 0))

/-- R108, R111: a pending CLEAR_FAULTS is carried out at the valve period and always reports ACCEPTED. In a unit in BACKUP
that holds a latched cause, all latched causes go when each is gone and none otherwise; a unit so cleared with no
standing cause is in REGULATE at the same expiry. -/
def Obligations.ClearFaults : Prop :=
  ∀ (dt : Nat) (s : State), s.isRunning = true → dueAt s.mdu.due (s.uptime + dt) → s.isPending .clearFaults = true →
    ∃ t, exec (.valvePeriodExpiry dt) s = .next t ∧ t.isPending .clearFaults = false ∧
      t.xpt.reports.clearFaults.result = .accepted ∧ t.xpt.reports.clearFaults.detail = 0 ∧ t.atc.pending.take = true ∧
      t.shows .device t.deviceBody ∧
      ∀ u : DriveUnit, s.unitMode u = .backup → (∃ c ∈ u.channels, (s.chan c).causes.hasLatched = true) → s.rearPairLaw →
        let k := fun c => (s.chan c).causes
        let gone := ∀ c ∈ u.channels, s.faultsGone c
        (gone → ∀ c ∈ u.channels, (t.chan c).causes = (k c).withoutLatched) ∧
        (¬gone → ∀ c ∈ u.channels, (t.chan c).causes = k c ∧ (t.chan c).mode = .backup) ∧
        (gone → (∀ c ∈ u.channels, (k c).sourceNone = false ∧ (k c).notActive = false) →
          ∀ c ∈ u.channels, (t.chan c).mode = .regulate)

/-! ### Rollover unit -/

/-- R117, R118, R120, R133: an evaluation changes ROU (but Af), a lowering of the lift axle, the TEST allowance, a ROLL
take, and the sections of rollover, lift, air and device with the journal alone. The next one falls 20 ms later,
counted from the time of the command also when that is late (log 4, the model's choice). A pending ROLL group is taken
in QUIET and in no other stage. In ACTIVE it finds threshold, the two levels and the transfer, in the group then in
force; in UNCONFIGURED it takes a ROLL group and rewrites the section alone. The section shows the record as it then
stands, the degraded flag among it also when this evaluation's own TEST grant set it (log 42, the model's choice).
That the REAR load ratio is taken as it stands, whatever its valid flag says, is log 33, the model's reading. -/
def Obligations.EvaluationThreshold : Prop :=
  ∀ (dt : Nat) (s : State), ∃ t, exec (.evaluationExpiry dt) s = .next t ∧
    t = { s.elapse dt with
      rou := t.rou, lfc := t.lfc, aac := { s.aac with test := t.aac.test }, freeCount := t.freeCount, xpt := t.xpt
      mem := t.mem, jrw := t.jrw, atc := t.atc, health := t.health } ∧
    sameOutside [.rollover, .lift, .air, .device, .journal] s t ∧ t.rou.af = s.rou.af ∧
    (s.isRunning = false ∨ ¬dueAt s.rou.due (s.uptime + dt) → t = s.elapse dt) ∧
    (s.isRunning = true → dueAt s.rou.due (s.uptime + dt) → t.rou.due = some (s.uptime + dt + 20000) ∧
      rewrote s t .rollover (t.rolloverBody t.lastTestAge) ∧
      (t.lfc.state ≠ s.lfc.state → rewrote s t .lift t.liftBody) ∧
      (t.lfc.state = s.lfc.state → t.lfc = s.lfc ∧ sameOutside [.rollover, .air, .device, .journal] s t) ∧
      let roll := s.rollVerdict
      (s.isPending .roll = false ∨ s.rou.stage ≠ .quiet ∨ roll.1.isAccepted = false → t.rou.group = s.rou.group) ∧
      (s.isPending .roll = true → s.rou.stage ≠ .quiet → t.isPending .roll = true) ∧
      (s.isPending .roll = true → s.rou.stage = .quiet → taken s t .roll roll.1 ∧
        (roll.1.isAccepted = true → t.rou.group = RollGroup.ofFields roll.2)) ∧
      (s.xpt.device ≠ .active → t.rou = { s.rou with group := t.rou.group, due := t.rou.due } ∧
        recorded (s.elapse dt) t (takenRecords s t .roll)) ∧
      (s.xpt.device = .active →
        let g := t.rou.group
        let r := s.ldu.rear.r
        let load := g.aEmpty - ((g.aEmpty - g.aLaden) * r + 2048) / 4096
        let slosh := if g.sloshLow ≤ r ∧ r ≤ g.sloshHigh then load - g.sloshPenalty else load
        let tyres := slosh - s.tyu.penalty
        let thr := max 100 (if s.rou.degraded = true then Int.tdiv (tyres * 9) 10 else tyres)
        t.rou.aThr = thr ∧ t.rou.aWatch = Int.tdiv (thr * 75) 100 ∧ t.rou.aRelease = Int.tdiv (thr * 60) 100 ∧
        t.rou.transfer = (if s.valid .bl = true ∧ s.valid .br = true then
            some (if s.value .bl + s.value .br = 0 then 0
              else Int.tdiv ((s.value .bl - s.value .br) * 1000) (s.value .bl + s.value .br))
          else none)))

/-- R49, R121 to R129: the stage an evaluation in ACTIVE leaves, from each stage, with the threshold, levels and transfer
of this evaluation and Af taken as 0 while Ay is invalid. A BRAKE entry sets the outer side from its cause, counts the
intervention, takes the unavailable flag from the rear unit's mode, raises ROLL and has the lift axle come down; WATCH
starts a test on the inner rear channel on a TEST grant; a test that ends leaves its result and no pulse in flight.
The test sign of an Af of 0 is a free value (log 19) and is not stated. That a test uses the side that this
evaluation's Af sets (log 23), and that the calm start is absent after every stage change (log 32), are the model's
readings. Each change of stage hands its ROLL_STAGE record and each test that ends its ROLL_TEST record (R132), behind
a TAKE of ROLL, with LIFT_MOVE of an aborted raise between them (log 13) and ALLOWANCE of the last TEST grant before
TEST_START; an evaluation in QUIET, WATCH and TEST that stays hands no more than that TAKE. The records from BRAKE,
and from HOLDOFF without a BRAKE entry, are O39's. -/
def Obligations.RolloverStages : Prop :=
  ∀ (dt : Nat) (s : State), dueAt s.rou.due (s.uptime + dt) → s.xpt.device = .active →
    ∃ t, exec (.evaluationExpiry dt) s = .next t ∧
      let o := s.rou
      let r := t.rou
      let g := r.group
      let since := fun (start : Time) => ((t.ms - start).toNat : Int)
      let ay := s.valid .ay = true
      let af : Int := if s.valid .ay = true then o.af else 0
      let sideOfAf : Side := if 0 < af then .right else .left
      let fast := g.vrollMin ≤ s.wsu.vref
      let tips := r.transfer.isSome = true ∧ g.transferLimit ≤ magnitude (r.transfer.getD 0)
      let threshold := r.aThr ≤ magnitude af ∧ fast
      let transfer := tips ∧ fast
      let calm := magnitude af < r.aRelease
      let follows := r.outer = if af = 0 then o.outer else sideOfAf
      let change := t.stageChange
      let handed := fun (records : List Record) => recorded (s.elapse dt) t (takenRecords s t .roll ++ records)
      let enters := fun (stage : Stage) => r.stage = stage ∧ r.stageEntry = t.ms ∧ r.calmStart = none
      let stays := fun (stage : Stage) => r.stage = stage ∧ r.stageEntry = o.stageEntry
      let brakes := fun (side : Side) (ending : List Record) (cause : Int) =>
        enters .brake ∧ r.outer = side ∧
        handed (ending ++ (if s.lfc.state = .raising then [moveRecord s t 1 2] else [])
          ++ [change ((match o.stage with
            | .quiet => 0x0003
            | .watch => 0x0103
            | .test => 0x0203
            | .brake => 0x0303
            | .holdoff => 0x0403)) r.unavailable cause]) ∧
        r.interventions = min (o.interventions + 1) 65535 ∧ (r.unavailable = true ↔ (s.chan .left).mode = .backup) ∧
        t.atc.pending.roll = true ∧ t.lfc.state ≠ .raising ∧ t.lfc.state ≠ .raised ∧
        (s.lfc.state.isUp = true → t.lfc.state = .lowering ∧ t.lfc.moveCause = .rollover)
      let sideOfTransfer : Side := if 0 < r.transfer.getD 0 then .left else .right
      (o.stage = .quiet ∨ o.stage = .watch ∨ o.stage = .holdoff →
        (threshold → brakes sideOfAf [] 4) ∧ (¬threshold → transfer → brakes sideOfTransfer [] 5)) ∧
      (o.stage = .quiet → ¬threshold → ¬transfer → follows ∧
        (ay → r.aWatch ≤ magnitude af → fast → enters .watch ∧ handed [change 0x0001 o.unavailable 0]) ∧
        (¬ay ∨ magnitude af < r.aWatch ∨ ¬fast → stays .quiet ∧ handed [])) ∧
      (o.stage = .watch → ¬threshold → ¬transfer →
        let start := if calm then some (o.calmStart.getD t.ms) else none
        let released := calm ∧ g.releaseTime ≤ since (o.calmStart.getD t.ms)
        let inner := r.outer.opposite.channel
        let wanted := (o.lastTest = none ∨ g.testInterval ≤ since (o.lastTest.getD 0)) ∧
          s.ldu.demand.d ≤ g.testSuppress ∧ (s.chan inner).mode = .regulate ∧ (s.slip inner).state = .pass
        let granted := 0 < s.aac.test.current ∧ s.valid .pres = true ∧ s.aac.group.reserve ≤ s.value .pres
        (¬ay ∨ released → enters .quiet ∧ t.aac = s.aac ∧ handed [change 0x0100 o.unavailable (if ay then 1 else 9)]) ∧
        (ay → ¬released → follows ∧
          (¬wanted → stays .watch ∧ r.calmStart = start ∧ r.refusals = o.refusals ∧ t.aac = s.aac ∧ handed []) ∧
          (wanted → rewrote s t .air t.airBody) ∧
          (wanted → ¬granted → stays .watch ∧ r.calmStart = start ∧ r.refusals = min (o.refusals + 1) 65535 ∧
            t.aac.test.current = s.aac.test.current ∧ handed []) ∧
          (wanted → granted → enters .test ∧ handed (spentRecords s t .test ++ [change 0x0102 o.unavailable 2]) ∧ r.testStart = some t.ms ∧ r.lastTest = some t.ms ∧
            r.testChannel = some r.outer.opposite ∧ r.testResult = .none ∧ r.testPeak = 0 ∧
            r.tests = min (o.tests + 1) 65535 ∧ t.aac.test.current = s.aac.test.current - 1 ∧
            (0 < o.af → r.testSign = some .positive) ∧ (o.af < 0 → r.testSign = some .negative)))) ∧
      (o.stage = .test →
        let wheels : Wheel × Wheel := match o.outer with
          | .right => (.a2l, .a3l)
          | .left => (.a2r, .a3r)
        let peak := fun (w : Wheel) (p : Int) => if (s.wheel w).included = true then max p (s.wheel w).slip else p
        let lifts := ((s.wheel wheels.1).included = true ∧ g.llift ≤ (s.wheel wheels.1).slip) ∨
          ((s.wheel wheels.2).included = true ∧ g.llift ≤ (s.wheel wheels.2).slip)
        let lost := ∃ side : Side, o.testChannel = some side ∧
          ((s.chan side.channel).mode = .backup ∨ (s.slip side.channel).state = .off)
        let turned := (o.testSign = some .positive ∧ af < 0) ∨ (o.testSign = some .negative ∧ 0 < af)
        let elapsed := g.testDuration ≤ match o.testStart with
          | none => 0
          | some start => since start
        let aborts := g.testSuppress < s.ldu.demand.d ∨ lost ∨ turned
        let ended := fun (result : TestResult) =>
          r.testResult = result ∧ r.testStart = none ∧ r.testSign = none ∧ r.testChannel = none
        let test := fun (info : Nat) => ({
          kind := .rollTest, subject := (match o.testChannel with
            | none => 0
            | some .left => 1
            | some .right => 2)
          info := info, a := t.ageOf o.testStart, b := r.testPeak } : Record)
        let watches := fun (info : Nat) => enters .watch ∧ handed [test info, change 0x0201 o.unavailable 3]
        r.testPeak = peak wheels.2 (peak wheels.1 o.testPeak) ∧ r.lastTest = o.lastTest ∧
        (¬ay → ended .inconclusive ∧ (transfer → brakes sideOfTransfer [test 0x0303] 5) ∧
          (¬transfer → enters .quiet ∧ handed [test 0x0307, change 0x0200 o.unavailable 9])) ∧
        (ay → lifts → ended .lift ∧ brakes o.outer [test 0x0201] 6) ∧
        (ay → ¬lifts → threshold → ended .inconclusive ∧ brakes sideOfAf [test 0x0302] 4) ∧
        (ay → ¬lifts → ¬threshold → transfer → ended .inconclusive ∧ brakes sideOfTransfer [test 0x0303] 5) ∧
        (ay → ¬lifts → ¬threshold → ¬transfer →
          (aborts → ended .inconclusive ∧
            watches (if g.testSuppress < s.ldu.demand.d then 0x0304 else if lost then 0x0305 else 0x0306)) ∧
          (¬aborts → elapsed → ended .grip ∧ watches 0x0100) ∧
          (¬aborts → ¬elapsed → stays .test ∧ r.testStart = o.testStart ∧ r.testSign = o.testSign ∧
            r.testChannel = o.testChannel ∧ r.testResult = o.testResult ∧ handed []))) ∧
      (o.stage = .brake → r.outer = o.outer ∧ (calm → ¬tips → enters .holdoff) ∧ (¬calm ∨ tips → stays .brake)) ∧
      (o.stage = .holdoff → ¬threshold → ¬transfer →
        let done := g.holdoffTime ≤ since o.stageEntry ∧ ∀ c, o.pRoll.get c = 0
        (¬done → stays .holdoff ∧ r.outer = o.outer) ∧
        (done → ay → r.aWatch ≤ magnitude af → enters .watch ∧ follows) ∧
        (done → ¬ay ∨ magnitude af < r.aWatch → enters .quiet))

/-- R130: the three requests of an evaluation in ACTIVE, by the stage that stands after it and the requests before it.
R131: but for a BRAKE entry the unavailable flag then follows the stage and the rear unit's mode. Its passage from 0
to 1 raises ROLL, and no other change of it does; in BRAKE and HOLDOFF a change hands the one ROLL_STAGE record of the
unchanged stage with cause UNAVAILABLE, behind the record of a release to HOLDOFF; a flag cleared as HOLDOFF ends has
no record beside that of the stage change (R132). -/
def Obligations.InterventionRequests : Prop :=
  ∀ (dt : Nat) (s : State), dueAt s.rou.due (s.uptime + dt) → s.xpt.device = .active →
    ∃ t, exec (.evaluationExpiry dt) s = .next t ∧
      let g := t.rou.group
      let old := s.rou.pRoll
      let new := t.rou.pRoll
      let outer := t.rou.outer.channel
      let inner := t.rou.outer.opposite.channel
      (t.rou.stage = .quiet ∨ t.rou.stage = .watch → ∀ c, new.get c = 0) ∧
      (t.rou.stage = .test → new.get outer = 0 ∧ new.get inner = g.pTest ∧ new.get .front = 0) ∧
      (t.rou.stage = .brake → new.get .front = new.get outer ∧
        new.get inner = (new.get outer * g.innerShare + 128) / 256 ∧
        (s.rou.stage ≠ .brake → new.get outer = max g.pRollStart (old.get outer)) ∧
        (s.rou.stage = .brake → new.get outer = min (old.get outer + g.rampStep) g.pRollMax)) ∧
      (t.rou.stage = .holdoff → ∀ c, new.get c = max 0 (old.get c - g.rampStep)) ∧
      let o := s.rou
      let r := t.rou
      let entered := o.stage ≠ .brake ∧ r.stage = .brake
      let record := t.stageChange
      let change := fun (info : Nat) => if r.unavailable = o.unavailable then [] else [record info r.unavailable 10]
      (¬entered → (r.unavailable = true ↔
        (r.stage = .brake ∨ r.stage = .holdoff) ∧ (s.chan .left).mode = .backup)) ∧
      (¬entered → o.unavailable = false → r.unavailable = true → t.atc.pending.roll = true) ∧
      (¬entered → o.unavailable = true ∨ r.unavailable = false → t.atc.pending.roll = s.atc.pending.roll) ∧
      (o.stage = .brake → r.stage = .brake → recorded (s.elapse dt) t (change 0x0303)) ∧
      (o.stage = .holdoff → r.stage = .holdoff → recorded (s.elapse dt) t (change 0x0404)) ∧
      (o.stage = .brake → r.stage = .holdoff →
        recorded (s.elapse dt) t (record 0x0304 o.unavailable 7 :: change 0x0404)) ∧
      (o.stage = .holdoff → r.stage = .watch → recorded (s.elapse dt) t [record 0x0401 o.unavailable 8]) ∧
      (o.stage = .holdoff → r.stage = .quiet → recorded (s.elapse dt) t [record 0x0400 o.unavailable 8])

/-! ### Tyre unit -/

/-- R136, R137: CD's assertion changes the pin alone; its loss in IDLE too; a gap timer means nothing in IDLE. A
character in IDLE opens a telegram exactly when it is a good SYNC; a good character before the ninth goes into an open
telegram and starts the gap timer again. Arrivals in START and SAFE, and while CD is deasserted, are ignored. -/
def Obligations.CharactersAndCarrier : Prop :=
  ∀ (dt : Nat) (b : Byte) (parityGood stopGood : Bool) (s : State),
    ∃ t, exec (.characterArrival dt b parityGood stopGood) s = .next t ∧
      t = { s.elapse dt with
        tyu := t.tyu, xpt := t.xpt, mem := t.mem, jrw := t.jrw, atc := t.atc, health := t.health } ∧
      sameOutside [.tyres, .device, .journal] s t ∧
      (s.isRunning = false ∨ s.pins.cd = false → t = s.elapse dt) ∧
      (s.isRunning = true → s.pins.cd = true → s.tyu.isOpen = false →
        t = { s.elapse dt with tyu := if b = 0x7E ∧ parityGood = true ∧ stopGood = true then
          { s.tyu with isOpen := true, buffer := [b], gapTimer := some (s.uptime + dt + 2000) } else s.tyu }) ∧
      (s.isRunning = true → s.pins.cd = true → s.tyu.isOpen = true → parityGood = true → stopGood = true →
        s.tyu.buffer.length < 8 → t = { s.elapse dt with
          tyu := { s.tyu with buffer := s.tyu.buffer ++ [b], gapTimer := some (s.uptime + dt + 2000) } }) ∧
      exec (.cdAsserted dt) s = .next { s.elapse dt with pins := { s.pins with cd := true } } ∧
      (s.tyu.isOpen = false →
        exec (.cdDeasserted dt) s = .next { s.elapse dt with pins := { s.pins with cd := false } } ∧
        exec (.gapTimerExpiry dt) s = .next (s.elapse dt))

/-- R137, R138: what ends an open telegram with an error: a bad stop bit (frame), a bad parity with a good stop bit
(parity), a ninth character that fails the check (check), the gap timer that is due and the loss of CD (gap). Each
leaves the receiver IDLE and empty, counts its own error alone and sets TELEGRAM_ERR. A pending TYRE group is taken in
that event while the part runs (R147), and the tyre section shows the table then standing; without a take the table,
the requests, the journal and the attention sets stay. -/
def Obligations.TelegramDiscarded : Prop :=
  ∀ (dt : Nat) (b : Byte) (parityGood stopGood : Bool) (s : State), s.tyu.isOpen = true →
    let discarded := fun (c : Instr) (cd : Bool) (gap parity frame check : Nat) => ∃ t, exec c s = .next t ∧
      t.tyu.isOpen = false ∧ t.tyu.buffer = [] ∧ t.tyu.gapTimer = none ∧ t.health.telegramErr = true ∧
      t.tyu.gapErrors = gap ∧ t.tyu.parityErrors = parity ∧ t.tyu.frameErrors = frame ∧ t.tyu.checkErrors = check ∧
      t.tyu.strangers = s.tyu.strangers ∧ t.tyu.telegrams = s.tyu.telegrams ∧
      sameOutside [.tyres, .device, .journal] s t ∧
      t = { s.elapse dt with
        pins := { s.pins with cd := cd }, tyu := t.tyu, xpt := t.xpt, mem := t.mem, jrw := t.jrw, atc := t.atc
        health := t.health } ∧
      let idle : Tyu := { s.tyu with
        isOpen := false, buffer := [], gapTimer := none, gapErrors := gap, parityErrors := parity, frameErrors := frame
        checkErrors := check }
      let takes := s.isRunning = true ∧ s.isPending .tyre = true
      let tyre := s.tyreVerdict
      (¬takes → t.tyu = idle ∧ t.xpt = s.xpt ∧ t.atc = s.atc ∧ recorded (s.elapse dt) t [] ∧
        rewrote s t .tyres t.tyreBody) ∧
      (takes → taken s t .tyre tyre.1 ∧ t.shows .tyres t.tyreBody ∧ t.atc.pending.tyre = s.atc.pending.tyre ∧
        recorded (s.elapse dt) t [t.reportRecord .tyre] ∧
        (tyre.1.isAccepted = true → rosterAdopted tyre.2 idle t.tyu) ∧ (tyre.1.isAccepted = false → t.tyu = idle))
    let u := s.tyu
    let one := fun (n : Nat) => min (n + 1) 65535
    let arrival : Instr := .characterArrival dt b parityGood stopGood
    (s.isRunning = true → s.pins.cd = true →
      (stopGood = false → discarded arrival true u.gapErrors u.parityErrors (one u.frameErrors) u.checkErrors) ∧
      (stopGood = true → parityGood = false →
        discarded arrival true u.gapErrors (one u.parityErrors) u.frameErrors u.checkErrors) ∧
      (stopGood = true → parityGood = true → u.buffer.length = 8 →
        b.toNat ≠ 255 - (((List.range 7).map (fun k => (u.buffer.getD (k + 1) 0).toNat)).sum % 256) →
        discarded arrival true u.gapErrors u.parityErrors u.frameErrors (one u.checkErrors))) ∧
    (dueAt u.gapTimer (s.uptime + dt) →
      discarded (.gapTimerExpiry dt) s.pins.cd (one u.gapErrors) u.parityErrors u.frameErrors u.checkErrors) ∧
    discarded (.cdDeasserted dt) false (one u.gapErrors) u.parityErrors u.frameErrors u.checkErrors

/-- R138, R140 to R142, R147: the ninth character of a telegram with a good check. An identity that no occupied slot holds
is a stranger and changes no slot; otherwise slot k takes pressure, temperature, flags, the pressure at 20 °C, its
leak reference, leak rate and leak count, and its judgement. A pending TYRE group is then taken in the same event,
from the slots as the telegram left them; the telegram's counts are those it has without the take. A change of state
into LOW, CRITICAL or LEAKING raises TYRE and hands its one TYRE_STATE record, and nothing else raises or hands; then
the exports are those of the slots (R144, R145), and the tyre section shows the table. That the TAKE record comes
behind that of the telegram is log 13, the model's choice. -/
def Obligations.TelegramJudged : Prop :=
  ∀ (dt : Nat) (b : Byte) (s : State), s.isRunning = true → s.pins.cd = true → s.tyu.isOpen = true →
    s.tyu.buffer.length = 8 →
    b.toNat = 255 - (((List.range 7).map (fun k => (s.tyu.buffer.getD (k + 1) 0).toNat)).sum % 256) →
    (s.isPending .tyre = false → ∃ t, exec (.characterArrival dt b true true) s = .next t ∧
      t.tyu.isOpen = false ∧ t.tyu.buffer = [] ∧ t.tyu.gapTimer = none ∧ t.tyu.checkErrors = s.tyu.checkErrors ∧
      t = { s.elapse dt with tyu := t.tyu, mem := t.mem, jrw := t.jrw, atc := t.atc, health := t.health } ∧
      t.tyu = { s.tyu with
        isOpen := false, buffer := [], gapTimer := none, slots := t.tyu.slots, strangers := t.tyu.strangers
        telegrams := t.tyu.telegrams, exports := t.tyu.exports, penalty := t.tyu.penalty } ∧
      sameOutside [.tyres, .journal] s t ∧ rewrote s t .tyres t.tyreBody ∧
      let ch := fun (k : Nat) => (s.tyu.buffer.getD k 0).toNat
      let id := ((ch 1 * 256 + ch 2) * 256 + ch 3) * 256 + ch 4
      let held := fun (k : Nat) => k < s.tyu.slots.length ∧ (s.slot k).occupied = true ∧ (s.slot k).id = id
      (id = 0 ∨ id = 0xFFFFFFFF ∨ (∀ k, ¬held k) → t.tyu.slots = s.tyu.slots ∧
        t.tyu.strangers = min (s.tyu.strangers + 1) 65535 ∧ t.tyu.telegrams = s.tyu.telegrams ∧
        t.tyu.exports = s.tyu.exports ∧ t.tyu.penalty = s.tyu.penalty ∧ t.atc = s.atc ∧ recorded (s.elapse dt) t []) ∧
      (∀ k, id ≠ 0 → id ≠ 0xFFFFFFFF → held k → (∀ j, j < k → ¬held j) →
        let x := t.slot k
        let y := s.slot k
        let p : Int := (ch 5 : Int) * 6
        let temperature : Int := (ch 6 : Int) - 50
        let p20 := max 0 (min 1530 (Int.tdiv ((p + 101) * 293) (temperature + 273) - 101))
        let percent := Int.tdiv (p20 * 100) y.pNom
        t.tyu.telegrams = min (s.tyu.telegrams + 1) 65535 ∧ t.tyu.strangers = s.tyu.strangers ∧
        (∀ j, j ≠ k → t.slot j = s.slot j) ∧ t.tyu.slots.length = s.tyu.slots.length ∧ t.tyu.exportsCurrent ∧
        x = { y with
          lastP := x.lastP, lastT := x.lastT, p20 := x.p20, leakRef := x.leakRef, leakRate := x.leakRate
          leakCount := x.leakCount, state := x.state, silentTimer := x.silentTimer, batteryLow := x.batteryLow
          rotating := x.rotating, telegrams := x.telegrams, lastArrival := x.lastArrival } ∧
        (x.state = y.state ∨ x.state = .normal → t.atc = s.atc ∧ recorded (s.elapse dt) t []) ∧
        (x.state ≠ y.state → x.state ≠ .normal →
          t.atc.pending.tyre = true ∧ recorded (s.elapse dt) t [tyreStateRecord k y x]) ∧
        x.lastP = some p ∧ x.lastT = some temperature ∧ x.p20 = some p20 ∧ x.silentTimer = 0 ∧
        x.lastArrival = some t.ms ∧ x.telegrams = min (y.telegrams + 1) 65535 ∧
        (x.batteryLow = true ↔ ch 7 % 2 = 1) ∧ (x.rotating = true ↔ ch 7 / 2 % 2 = 1) ∧
        (y.leakRef = none → x.leakRef = some (p20, t.ms) ∧ x.leakRate = y.leakRate) ∧
        (∀ reference start, y.leakRef = some (reference, start) →
          let since : Int := ((t.ms - start).toNat : Int)
          (since < 20000 → x.leakRef = y.leakRef ∧ x.leakRate = y.leakRate) ∧
          (20000 ≤ since → x.leakRef = some (p20, t.ms) ∧
            x.leakRate = some (max 0 (Int.tdiv ((reference - p20) * 60000) since)))) ∧
        x.leakCount = (match x.leakRate with
          | none => 0
          | some rate => if s.tyu.group.leakThreshold ≤ rate then min (y.leakCount + 1) 255 else 0) ∧
        x.state = (if percent < s.tyu.group.criticalPct then .critical
          else if ch 7 / 4 % 2 = 1 ∨ 2 ≤ x.leakCount then .leaking
          else if percent < s.tyu.group.lowPct then .low else .normal))) ∧
    (s.isPending .tyre = true → ∃ t u, exec (.characterArrival dt b true true) s = .next t ∧
      exec (.characterArrival dt b true true) { s with xpt := { s.xpt with pending := s.xpt.pending.set .tyre false } } =
        .next u ∧
      taken s t .tyre s.tyreVerdict.1 ∧ t.shows .tyres t.tyreBody ∧
      t.atc.pending.tyre = u.atc.pending.tyre ∧
      recorded u t [t.reportRecord .tyre] ∧
      (s.tyreVerdict.1.isAccepted = false → t.tyu = u.tyu) ∧
      (s.tyreVerdict.1.isAccepted = true → rosterAdopted s.tyreVerdict.2 u.tyu t.tyu))

/-- R143: a silence scan that is due starts the next one, counted from the time of the command also when that is late (log
4, the model's choice); below 300 it changes no slot, from 300 on every occupied slot that is not SILENT counts a
second and becomes SILENT when its count exceeds the silent time. The slots that become SILENT raise TYRE and hand
their TYRE_STATE records, in slot order, and the exports are then those of the slots; a scan at which none does raises
and hands nothing and leaves the exports. The tyre section is rewritten at each scan. -/
def Obligations.SilenceScan : Prop :=
  ∀ (dt : Nat) (s : State), ∃ t, exec (.silenceScan dt) s = .next t ∧
    t = { s.elapse dt with tyu := t.tyu, mem := t.mem, jrw := t.jrw, atc := t.atc, health := t.health } ∧
    sameOutside [.tyres, .journal] s t ∧
    (s.isRunning = false → t = s.elapse dt) ∧
    (s.isRunning = true → dueAt s.tyu.due (s.uptime + dt) → t.tyu.due = some (s.uptime + dt + 1000000) ∧
      (s.wsu.vref < 300 → t.tyu.slots = s.tyu.slots) ∧
      t.tyu = { s.tyu with
        slots := t.tyu.slots, exports := t.tyu.exports, penalty := t.tyu.penalty, due := t.tyu.due } ∧
      t.tyu.slots.length = s.tyu.slots.length ∧ rewrote s t .tyres t.tyreBody ∧
      let silenced := (List.range s.tyu.slots.length).filter (fun k => decide ((t.slot k).state ≠ (s.slot k).state))
      recorded (s.elapse dt) t (silenced.map (fun k => tyreStateRecord k (s.slot k) (t.slot k))) ∧
      (silenced = [] → t.atc = s.atc ∧ t.tyu.exports = s.tyu.exports ∧ t.tyu.penalty = s.tyu.penalty) ∧
      (silenced ≠ [] → t.atc.pending.tyre = true ∧ t.tyu.exportsCurrent) ∧
      (300 ≤ s.wsu.vref → ∀ k, k < s.tyu.slots.length →
        let x := s.slot k
        let n := min (x.silentTimer + 1) 65535
        (x.occupied = false ∨ x.state = .silent → t.slot k = x) ∧
        (x.occupied = true → x.state ≠ .silent → t.slot k =
          { x with silentTimer := n
                   state := if s.tyu.group.silentTime < (n : Int) then .silent else x.state })))

/-- R144, R145: the export record as TYU computes it from any slots and group: the smallest deficit of a wheel end's
tyres, the radius factor, the flat-tyre flag, and the capped tyre penalty of the rear wheel ends. That a telegram, a
scan and an adoption leave it so is stated of their commands (O7, O41, O42, O43, O52). -/
def Obligations.TyreExports : Prop :=
  ∀ s : State,
    let t := s.recomputeExports
    t = { s with tyu := { s.tyu with exports := t.tyu.exports, penalty := t.tyu.penalty } } ∧ t.tyu.exportsCurrent

/-! ### Air account -/

/-- R151, R154, R155, R168: a reservoir sample. A pending AIR group is taken, and an accepted one fills both allowances;
then the critical flag follows the Pres entry that the sample leaves, by the levels then in force, with SUPPLY's
condition following it; then the auto-reload fills both allowances when its conditions hold. Without adoption and
reload the allowances stay. ROU's degraded flag follows a change of the TEST mask. The records are the ALLOWANCE
records of the adoption before its TAKE (log 13), AIR_LEVEL of a change of the critical flag, and the ALLOWANCE
records of a reload for each count it changed, TEST before LIFT. That a refused group leaves the air section alone,
and that an adoption and the changes of its sample share one rewrite, is log 26, the model's reading. -/
def Obligations.ReservoirSample : Prop :=
  ∀ (dt : Nat) (n : BitVec 12) (s : State), s.isRunning = true → s.atc.supply = s.aac.critical →
    ∃ t, exec (.sampleCompletion dt .pres n) s = .next t ∧
      let g := t.aac.group
      let p := t.value .pres
      let air := s.airVerdict
      let adopted := s.isPending .air = true ∧ air.1.isAccepted = true
      let reloads := g.autoReload = true ∧ t.valid .pres = true ∧ g.reload ≤ p ∧
        g.interval ≤ ((t.ms - s.aac.lastReload).toNat : Int)
      (t.valid .pres = false → t.aac.critical = s.aac.critical) ∧
      (t.valid .pres = true → s.aac.critical = false → (t.aac.critical = true ↔ p < g.critical)) ∧
      (t.valid .pres = true → s.aac.critical = true → (t.aac.critical = true ↔ p < g.critical + g.hysteresis)) ∧
      t.atc.supply = t.aac.critical ∧
      (s.isPending .air = true → taken s t .air air.1) ∧
      (adopted → g = AirGroup.ofFields air.2) ∧ (¬adopted → g = s.aac.group) ∧
      (adopted ∨ reloads → t.aac.lastReload = t.ms ∧
        t.aac.test = { s.aac.test with current := g.testBase } ∧ t.aac.lift = { s.aac.lift with current := g.liftBase }) ∧
      (¬adopted → ¬reloads →
        t.aac.lastReload = s.aac.lastReload ∧ t.aac.test = s.aac.test ∧ t.aac.lift = s.aac.lift) ∧
      let changed := t.aac.critical ≠ s.aac.critical ∨ t.aac.test.current ≠ s.aac.test.current ∨
        t.aac.lift.current ≠ s.aac.lift.current
      recorded (s.elapse dt) t ((if adopted then [t.fillRecord .test 3, t.fillRecord .lift 3] else [])
        ++ takenRecords s t .air ++ levelRecords s t ++ [AllowanceName.test, .lift].flatMap (fun n =>
          if ¬adopted ∧ reloads ∧ (s.aac.get n).current ≠ (t.aac.get n).current then [t.fillRecord n 2] else [])) ∧
      (adopted ∨ changed → rewrote s t .air t.airBody) ∧
      (¬adopted → ¬changed → sameOutside [.device, .journal] s t) ∧
      t.rou.degraded = (if (t.aac.test.current = 0 ↔ s.aac.test.current = 0) then s.rou.degraded
        else decide (t.aac.test.current = 0))

/-- R152, R153: AAC's answer: a grant needs a count in hand and Pres valid and at least the reserve level, and takes one
count; a refusal leaves the count and is counted under its reason; the grant that spends the last TEST count degrades
ROU's threshold. The grant that spends the last count hands its ALLOWANCE record, and no other answer hands one. -/
def Obligations.AllowanceAnswer : Prop :=
  ∀ (s : State) (n : AllowanceName),
    let t := s.answerRequest n
    let x := s.aac.get n
    let granted := 0 < x.current ∧ s.valid .pres = true ∧ s.aac.group.reserve ≤ s.value .pres
    (s.wouldGrant n = true ↔ granted) ∧
    (granted → t.aac.get n = { x with current := x.current - 1, grants := min (x.grants + 1) 65535 }) ∧
    (¬granted → 0 < x.current → t.aac.get n = { x with refusedReserve := min (x.refusedReserve + 1) 65535 }) ∧
    (¬granted → x.current ≤ 0 → t.aac.get n = { x with refusedCount := min (x.refusedCount + 1) 65535 }) ∧
    (∀ k, k ≠ n → t.aac.get k = s.aac.get k) ∧ t.aac.group = s.aac.group ∧ rewrote s t .air t.airBody ∧
    recorded s t (spentRecords s t n) ∧
    t.rou.degraded = (if n = .test ∧ granted ∧ x.current = 1 then true else s.rou.degraded)

/-! ### The port, the registers and the takes -/

/-- R158, R159, R163, R169 to R172: a READ of memory bytes, its command 0x6C and the address most significant byte first,
returns them as they stand and changes nothing else. A WRITE, with 0x6E, changes the bytes it aims at host regions and
no other, and discards those aimed at the status page and the journal. A transaction with another command, or without
a whole address, has no effect. A transaction sent in two parts is the whole one. Each row of a register access is the
READ or WRITE of the two bytes at the register's address. (The window port.out on the bytes returned is log 11's; a
row's `select` and `ends` are log 10's.) A READ of IDENT, ATTN_END, ATTN_MASK or TAKE returns 0x2E61 or the set's bits
and changes nothing else (that bits 8 to 15 of ATTN_MASK read 0 is log 43, the model's choice). A READ of a register's
lower byte alone takes its action and returns that byte; one of the higher byte alone returns it as it stands, without
an action; a WRITE of one byte alone is ignored. The addresses 0x3FFC to 0x3FFF read as 0 and ignore writes, and from
0x3FFF a transaction goes on at 0x0000. -/
def Obligations.PortMovesMemoryBytes : Prop :=
  (∀ (dt : Nat) (high low : Byte) (sent : List Byte) (s : State), s.pins.nreset = false → s.port.txn = none →
    let a := (high.toNat * 256 + low.toNat) % 0x4000
    a + sent.length ≤ 0x3FF0 →
    exec (.read dt true ([0x6C, high, low] ++ sent) true) s = .next { s.elapse dt with
      port := { txn := none, out := (List.range sent.length).map (fun k => Memory.byte s.mem (a + k)) } }) ∧
  (∀ (dt : Nat) (high low : Byte) (bytes : List Byte) (s : State), s.pins.nreset = false → s.port.txn = none →
    let a := (high.toNat * 256 + low.toNat) % 0x4000
    a + bytes.length ≤ 0x3FF0 →
    ∃ t, exec (.write dt true ([0x6E, high, low] ++ bytes) true) s = .next t ∧ t = { s.elapse dt with mem := t.mem } ∧
      ∀ x, Memory.byte t.mem x = if a ≤ x ∧ x < a + bytes.length ∧ (x < 0x0C00 ∨ 0x1800 ≤ x) then
        bytes.getD (x - a) 0 else Memory.byte s.mem x) ∧
  (∀ (dt : Nat) (bytes : List Byte) (s : State), s.port.txn = none →
    bytes.length < 3 ∨ (bytes.head? ≠ some 0x6C ∧ bytes.head? ≠ some 0x6E) →
    exec (.read dt true bytes true) s = .next (s.elapse dt) ∧ exec (.write dt true bytes true) s = .next (s.elapse dt)) ∧
  (∀ (dt : Nat) (select ends : Bool) (first rest : List Byte) (s t : State),
    exec (.read dt select first false) s = .next t →
    exec (.read dt select (first ++ rest) ends) s = exec (.read 0 false rest ends) t ∧
    exec (.write dt select (first ++ rest) ends) s = exec (.write 0 false rest ends) t) ∧
  (∀ (dt : Nat) (x y : Byte) (s : State), s.pins.nreset = false → s.port.txn = none →
    let returns := fun (a : Byte) (sent out : List Byte) =>
      exec (.read dt true ([0x6C, 0x3F, a] ++ sent) true) s = .next { s.elapse dt with port := { txn := none, out := out } }
    let levels := fun (f : Level → Bool) => BitVec.ofNat 8 (Level.all.map (fun l => if f l then 2 ^ l.index else 0)).sum
    let requests := (Request.all.map (fun r => if s.isPending r then 2 ^ r.index else 0)).sum
    returns 0xF0 [x, y] [0x61, 0x2E] ∧
    returns 0xF6 [x, y] [levels s.atc.inService.get, 0] ∧
    returns 0xF8 [x, y] [levels s.atc.mask.get, 0] ∧
    returns 0xFA [x, y] [BitVec.ofNat 8 (requests % 256), BitVec.ofNat 8 (requests / 256)] ∧
    returns 0xF1 [x] [0x2E] ∧ returns 0xF3 [x] [0] ∧ returns 0xF5 [x] [0] ∧ returns 0xF7 [x] [0] ∧ returns 0xF9 [x] [0] ∧
    returns 0xFB [x] [if s.isPending .clearFaults = true then 1 else 0] ∧
    (∀ a ∈ ([0xF0, 0xF2, 0xF4, 0xF6, 0xF8, 0xFA] : List Byte), ∃ t first second,
      exec (.read dt true [0x6C, 0x3F, a, x, y] true) s = .next t ∧ t.port.out = [first, second] ∧
      exec (.read dt true [0x6C, 0x3F, a, x] true) s = .next { t with port := { txn := none, out := [first] } }) ∧
    ∀ a : Byte, 0xF0 ≤ a.toNat → exec (.write dt true [0x6E, 0x3F, a, x] true) s = .next (s.elapse dt)) ∧
  (∀ (dt : Nat) (high low : Byte) (bytes : List Byte) (s : State), s.pins.nreset = false → s.port.txn = none →
    let a := (high.toNat * 256 + low.toNat) % 0x4000
    0x3FFC ≤ a → a + bytes.length ≤ 0x4000 + 0x3FF0 →
    exec (.read dt true ([0x6C, high, low] ++ bytes) true) s = .next { s.elapse dt with
      port := { txn := none, out := (List.range bytes.length).map (fun k =>
        if a + k < 0x4000 then 0 else Memory.byte s.mem (a + k - 0x4000)) } } ∧
    ∃ t, exec (.write dt true ([0x6E, high, low] ++ bytes) true) s = .next t ∧ t = { s.elapse dt with mem := t.mem } ∧
      ∀ x, Memory.byte t.mem x = if x + 0x4000 < a + bytes.length ∧ (x < 0x0C00 ∨ 0x1800 ≤ x) then
        bytes.getD (x + 0x4000 - a) 0 else Memory.byte s.mem x) ∧
  ∀ (dt : Nat) (low high : Byte) (r : Request) (s : State),
    exec (.healthRead dt) s = exec (.read dt true [0x6C, 0x3F, 0xF2, low, high] true) s ∧
    exec (.attnPoll dt) s = exec (.read dt true [0x6C, 0x3F, 0xF4, low, high] true) s ∧
    exec (.attnEnd dt (high ++ low)) s = exec (.write dt true [0x6E, 0x3F, 0xF6, low, high] true) s ∧
    exec (.attnMaskWrite dt (high ++ low)) s = exec (.write dt true [0x6E, 0x3F, 0xF8, low, high] true) s ∧
    exec (.registerWriteIgnored dt .ident (high ++ low)) s = exec (.write dt true [0x6E, 0x3F, 0xF0, low, high] true) s ∧
    exec (.registerWriteIgnored dt .health (high ++ low)) s = exec (.write dt true [0x6E, 0x3F, 0xF2, low, high] true) s ∧
    exec (.registerWriteIgnored dt .attnPoll (high ++ low)) s = exec (.write dt true [0x6E, 0x3F, 0xF4, low, high] true) s ∧
    exec (takeCommand dt r) s = exec (.write dt true [0x6E, 0x3F, 0xFA, BitVec.ofNat 8 (2 ^ r.index),
      BitVec.ofNat 8 (2 ^ r.index / 256)] true) s

/-- R162, R172: a read of HEALTH returns the eight flags, the two live ones as they stand, and clears each sticky flag
whose standing condition is false or which has none. -/
def Obligations.HealthRead : Prop :=
  ∀ (dt : Nat) (s : State), s.pins.nreset = false → s.port.txn = none →
    let bit := fun (b : Bool) => if b then 1 else 0
    let value := bit s.health.resetSeen + 2 * bit s.load.due.isSome + 4 * bit (decide (s.xpt.device = .safe)) +
      8 * bit s.health.sensorFault + 16 * bit s.health.valveFault + 32 * bit s.health.telegramErr +
      64 * bit s.health.demandMismatch + 128 * bit s.health.journalDrop
    ∃ t, exec (.healthRead dt) s = .next t ∧ t = { s.elapse dt with port := t.port, health := t.health } ∧
      t.port = { txn := none, out := [BitVec.ofNat 8 value, 0] } ∧
      t.health.resetSeen = false ∧ t.health.telegramErr = false ∧
      (t.health.sensorFault = true ↔ s.health.sensorFault = true ∧ ∃ i, (s.entry i).state = .fault) ∧
      (t.health.valveFault = true ↔ s.health.valveFault = true ∧ ∃ c k, (s.chan c).causes.get k = true ∧
        (k = .inletOpen ∨ k = .inletShort ∨ k = .outletOpen ∨ k = .outletShort ∨ k = .tracking)) ∧
      (t.health.demandMismatch = true ↔ s.health.demandMismatch = true ∧ s.ldu.demand.mismatch = true) ∧
      (t.health.journalDrop = true ↔ s.health.journalDrop = true ∧ 0 < s.jrw.drops)

/-- R169: a poll selects the lowest-numbered level that is pending, not masked and lower-numbered than every level in
service, moves it from pending to in service and returns its number, or returns NONE and changes no set. (The row is a
whole transaction, log 10, and port.out is the model's window on the bytes returned, log 11.) -/
def Obligations.PollTakesTheLowestLevel : Prop :=
  ∀ (dt : Nat) (s : State), s.pins.nreset = false → s.port.txn = none →
    let waits := fun (l : Level) => s.atc.pending.get l = true ∧ s.atc.mask.get l = false ∧
      ∀ k, s.atc.inService.get k = true → l.index < k.index
    ∃ t, exec (.attnPoll dt) s = .next t ∧ t = { s.elapse dt with port := t.port, atc := t.atc } ∧
      ((∀ l, ¬waits l) → t.atc = s.atc ∧ t.port = { txn := none, out := [0xFF, 0] }) ∧
      ∀ l, waits l → (∀ k, waits k → l.index ≤ k.index) →
        t.port = { txn := none, out := [BitVec.ofNat 8 l.index, 0] } ∧
        t.atc = { s.atc with
          pending := s.atc.pending.set l false, inService := s.atc.inService.set l true, nattn := t.atc.nattn }

/-- R170, R174: an end takes the level named (or, for 0x000F, the lowest in service) out of service; a level source's
level is then pending exactly when its condition holds, JOURNAL's after a judgement of the journal's room; any other
value, and a level not in service, leave everything. -/
def Obligations.EndLeavesService : Prop :=
  ∀ (dt : Nat) (value : Half) (s : State), s.pins.nreset = false → s.port.txn = none →
    ∃ t, exec (.attnEnd dt value) s = .next t ∧
      t = { s.elapse dt with mem := t.mem, jrw := t.jrw, atc := t.atc } ∧ sameOutside [.journal] s t ∧
      let ended := fun (l : Level) => s.atc.inService.get l = true ∧
        (value.toNat = l.index ∨ (value = 0x000F ∧ ∀ k, s.atc.inService.get k = true → l.index ≤ k.index))
      ((∀ l, ¬ended l) → t = s.elapse dt) ∧
      ∀ l, ended l → t.atc.inService = s.atc.inService.set l false ∧ t.atc.mask = s.atc.mask ∧
        (∀ k, k ≠ l → (k ≠ .journal ∨ l ≠ .journal) → t.atc.pending.get k = s.atc.pending.get k) ∧
        (l ≠ .journal → t.jrw = s.jrw ∧ t.mem = s.mem) ∧
        (l = .journal → t.jrw = (s.elapse dt).judgeRoom.jrw ∧
          (t.atc.pending.journal = true ↔ 0 < t.jrw.occupied)) ∧
        (l = .supply → t.atc.pending.supply = s.atc.supply) ∧ (l = .demand → t.atc.pending.demand = s.atc.demand) ∧
        (l.index ∈ [0, 1, 2, 3, 6] → t.atc.pending = s.atc.pending)

/-- R159, R171: a write of ATTN_MASK replaces the mask set with bits 0 to 7 and nATTN is judged anew; a write of IDENT,
HEALTH or ATTN_POLL changes nothing. -/
def Obligations.MaskAndIgnoredWrites : Prop :=
  ∀ (dt : Nat) (value : Half) (register : ReadOnlyRegister) (s : State), s.pins.nreset = false → s.port.txn = none →
    exec (.registerWriteIgnored dt register value) s = .next (s.elapse dt) ∧
    ∃ t, exec (.attnMaskWrite dt value) s = .next t ∧ t = { s.elapse dt with atc := t.atc } ∧
      t.atc = { s.atc with mask := t.atc.mask, nattn := t.atc.nattn } ∧ t.attentionLaw ∧
      ∀ l, t.atc.mask.get l = value.getLsbD l.index

/-- R146, R147, R163: a TAKE write of a request that is not pending, by request: it joins the pending set and waits, but
for REPORT, and for TYRE with no telegram open while the part runs, which are taken at once. A request already pending
changes nothing. A WRITE of TAKE with several bits set makes their requests one after another, the lowest bit first
(log 12, the model's choice), and bits 9 to 15, and bits written as 0, change nothing. That a refused TYRE group
rewrites no tyre section is log 26, the model's reading. -/
def Obligations.TakeRequests : Prop :=
  (∀ (dt : Nat) (r : Request) (s : State), s.pins.nreset = false → s.port.txn = none →
    (s.isPending r = true → exec (takeCommand dt r) s = .next (s.elapse dt)) ∧
    (s.isPending r = false → r ≠ .report →
      (r ≠ .tyre ∨ s.isRunning = false ∨ s.tyu.isOpen = true) →
      exec (takeCommand dt r) s = .next
        { s.elapse dt with xpt := { s.xpt with pending := s.xpt.pending.set r true } }) ∧
    (s.isPending r = false → r = .tyre → s.isRunning = true → s.tyu.isOpen = false →
      ∃ t, exec (takeCommand dt r) s = .next t ∧ t.isPending .tyre = false ∧ t.atc.pending.take = true ∧
        t = { s.elapse dt with
          tyu := t.tyu, xpt := t.xpt, mem := t.mem, jrw := t.jrw, atc := t.atc, health := t.health } ∧
        sameOutside [.tyres, .device, .journal] s t ∧ t.xpt.reports.tyre = s.xpt.reports.tyre.after s.tyreVerdict.1 ∧
        t.shows .device t.deviceBody ∧ t.atc.pending.tyre = s.atc.pending.tyre ∧
        recorded (s.elapse dt) t [t.reportRecord .tyre] ∧
        (s.tyreVerdict.1.isAccepted = true →
          rosterAdopted s.tyreVerdict.2 s.tyu t.tyu ∧ rewrote s t .tyres t.tyreBody) ∧
        (s.tyreVerdict.1.isAccepted = false → t.tyu = s.tyu ∧ sameOutside [.device, .journal] s t))) ∧
  ∀ (dt : Nat) (low high : Byte) (s : State), s.pins.nreset = false → s.port.txn = none →
    let write := fun (dt : Nat) (low high : Byte) => Instr.write dt true [0x6E, 0x3F, 0xFA, low, high] true
    ((∀ k, k < 9 → (high ++ low).getLsbD k = false) → exec (write dt low high) s = .next (s.elapse dt)) ∧
    ∀ r : Request, (high ++ low).getLsbD r.index = true → (∀ k, k < r.index → (high ++ low).getLsbD k = false) →
      ∃ u, exec (takeCommand dt r) s = .next u ∧
        ∀ low' high' : Byte, (∀ k, k < 9 → (high' ++ low').getLsbD k = ((high ++ low).getLsbD k && decide (k ≠ r.index))) →
          exec (write dt low high) s = exec (write 0 low' high') u

/-- R164, R175: a REPORT take is carried out in its own event: kind enables from bits 1 to 13 (that the ignored bits are
held as 0 is log 41, the model's choice), the warning level clamped to 0 to 32, the outcome with its detail and count
at XPT, TAKE pending, and the journal's room judged with the new level. The TAKE record is the one record, under the
new kind enables. -/
def Obligations.ReportTake : Prop :=
  ∀ (dt : Nat) (s : State), s.pins.nreset = false → s.port.txn = none → s.isPending .report = false →
    ∃ t, exec (.takeReport dt) s = .next t ∧
      t = { s.elapse dt with xpt := t.xpt, mem := t.mem, jrw := t.jrw, atc := t.atc, health := t.health } ∧
      sameOutside [.device, .journal] s t ∧ t.isPending .report = false ∧ t.atc.pending.take = true ∧
      t.shows .device t.deviceBody ∧
      let level := Memory.word s.mem 0x0704
      t.jrw.group.warningLevel = min level 32 ∧
      (∀ n, t.jrw.group.kinds.getLsbD n = ((BitVec.ofNat 32 (Memory.word s.mem 0x0700)).getLsbD n && decide (1 ≤ n ∧ n ≤ 13))) ∧
      t.xpt.reports.report = { result := if level ≤ 32 then .accepted else .acceptedClamped
                               detail := if level ≤ 32 then 0 else 1
                               count := (s.xpt.reports.report.count + 1) % 65536 } ∧
      (∀ r, r ≠ .report → t.xpt.reports.get r = s.xpt.reports.get r ∧ t.isPending r = s.isPending r) ∧
      (let adopted := { s.elapse dt with jrw := { s.jrw with group := t.jrw.group } };
        let judged := (adopted.hand (t.reportRecord .report)).judgeRoom
        t.jrw = judged.jrw ∧ ∀ x, 0x1400 ≤ x → Memory.byte t.mem x = Memory.byte judged.mem x) ∧
      (s.journalLaw → (t.jrw.warning = true ↔ t.jrw.free ≤ t.jrw.group.warningLevel))

/-! ### The journal -/

/-- R172 to R174: the judgement of the room: a release value at most 64 behind W is valid, another is counted and ignored;
then occupied, free, the warning flag and the JOURNAL condition follow. A record handed to JRW: a disabled kind
changes nothing. Otherwise, after the judgement of the room: with free at least 1 and no drops the record stands in
slot W modulo 64 and W counts it; with free 0 it is dropped, counted, and JOURNAL_DROP set; after drops, with free 2
or more a GAP record with the drop count goes before it, and with free 1 a GAP record with the drop count plus 1
stands instead of it, and JOURNAL_DROP is set for the record dropped (R172, log 35, the model's reading). Each record
written or dropped rewrites the journal section once. That the section rewritten with a record shows already the
counts and the warning flag which that record leaves is log 44, and the coding of a negative value in its bytes log
36: the model's choices. -/
def Obligations.RecordHanded : Prop :=
  (∀ s : State,
    let t := s.judgeRoom
    let value := BitVec.ofNat 16 (Memory.half s.mem 0x0810)
    let valid := (s.jrw.w - value).toNat ≤ 64
    (valid → t.jrw.rel = value ∧ t.jrw.ignored = s.jrw.ignored) ∧
    (¬valid → t.jrw.rel = s.jrw.rel ∧ t.jrw.ignored = min (s.jrw.ignored + 1) 65535) ∧
    t.jrw.w = s.jrw.w ∧ t.jrw.drops = s.jrw.drops ∧ t.jrw.group = s.jrw.group ∧
    t.jrw.occupied = (t.jrw.w - t.jrw.rel).toNat ∧ t.jrw.free = 64 - t.jrw.occupied ∧
    (t.jrw.warning = true ↔ t.jrw.free ≤ t.jrw.group.warningLevel) ∧
    (t.atc.journal = true ↔ 0 < t.jrw.occupied) ∧
    (t.jrw.occupied ≠ s.jrw.occupied ∨ t.jrw.rel ≠ s.jrw.rel ∨ t.jrw.warning ≠ s.jrw.warning ∨
      t.jrw.ignored ≠ s.jrw.ignored → rewrote s t .journal t.jrw.body) ∧
    (t.jrw.occupied = s.jrw.occupied → t.jrw.rel = s.jrw.rel → t.jrw.warning = s.jrw.warning →
      t.jrw.ignored = s.jrw.ignored → t.mem = s.mem) ∧
    t = { s with mem := t.mem, jrw := t.jrw, atc := t.atc } ∧ sameOutside [.journal] s t ∧
    ∀ x, 0x1400 ≤ x → Memory.byte t.mem x = Memory.byte s.mem x) ∧
  ∀ (s : State) (r : Record), s.journalLaw →
    let t := s.hand r
    let j := s.judgeRoom.jrw
    let slot := fun (w : Half) => 0x1400 + 16 * (w.toNat % 64)
    let stands := fun (w : Half) (x : Record) => ∀ k, k < 16 → Memory.byte t.mem (slot w + k) = (x.bytes s.ms).getD k 0
    let gap := fun (n : Nat) => ({ kind := .gap, subject := 0, info := 0, a := n, b := 0 } : Record)
    let rewrites := fun (n : Nat) => t.headStamp .journal = (s.judgeRoom.headStamp .journal + n) % 65536
    (s.jrw.group.enables r.kind = false → t = s) ∧
    (s.jrw.group.enables r.kind = true → j.w = s.jrw.w ∧ t.shows .journal t.jrw.body ∧
      (1 ≤ j.free → j.drops = 0 → t.jrw.w = j.w + 1 ∧ t.jrw.drops = 0 ∧ stands j.w r ∧ t.health = s.health ∧ rewrites 1) ∧
      (j.free = 0 → t.jrw.w = j.w ∧ t.jrw.drops = min (j.drops + 1) 65535 ∧ t.health.journalDrop = true ∧
        rewrites 1 ∧ ∀ x, 0x1400 ≤ x → Memory.byte t.mem x = Memory.byte s.mem x) ∧
      (2 ≤ j.free → 0 < j.drops → t.jrw.w = j.w + 2 ∧ t.jrw.drops = 0 ∧ stands j.w (gap j.drops) ∧
        stands (j.w + 1) r ∧ rewrites 2) ∧
      (j.free = 1 → 0 < j.drops → t.jrw.w = j.w + 1 ∧ t.jrw.drops = 0 ∧ stands j.w (gap (j.drops + 1)) ∧
        t.health.journalDrop = true ∧ rewrites 2))

/-! ### The laws of the part, kept by every step -/

/-- Exchange memory keeps its canonical form under every command. -/
def Obligations.MemoryStaysCanonical : Prop := KeptByEveryStep State.memoryCanonical

/-- R168, R171, R173, R174, Table 11.1: nATTN is asserted exactly when some unmasked pending level has higher priority
than every level in service; a level source's level that is not in service is pending exactly while its condition
holds, and the conditions stand as their owners hold them; the journal never holds more than 64 unreleased records. -/
def Obligations.AttentionAndJournalLawsKept : Prop := KeptByEveryStep (fun s => s.attentionLaw ∧ s.levelSourceLaw ∧ s.journalLaw ∧ s.conditionLaw)

/-- R74, R77, R78, R80, R83, R95, R96, R104, R108: the rear channels share their mode; a channel in BACKUP has both valves
off and is OFF at SCU; a channel in REGULATE has no cause; NOT_ACTIVE stands outside ACTIVE; and a slip record has the
timers and episode fields of its state. -/
def Obligations.ModeAndSlipLawsKept : Prop := KeptByEveryStep (fun s => s.modeLaw ∧ s.slipLaw)

/-- R34, R42, R49, R65, R116, R124, R130: the lift valve is energised in RAISING and RAISED alone, never during BRAKE or
HOLDOFF; with the axle up the FRONT target is 0 and its wheel ends are EXCLUDED; at most one test pulse is in flight,
in TEST alone, on the inner rear channel; and no request stands in QUIET and WATCH. -/
def Obligations.LiftAndRolloverLawsKept : Prop := KeptByEveryStep (fun s => s.liftLaw ∧ s.rolloverLaw)

/-- R33, R152: each allowance's current count lies between 0 and its base count, and an axle target pressure never
exceeds the effective demand or Pmax. -/
def Obligations.AllowanceAndTargetLawsKept : Prop := KeptByEveryStep (fun s => s.allowanceLaw ∧ s.targetLaw)

/-- R57, R60, R66, R136, R139: occupied slots share neither sensor identity nor place; a telegram is open exactly while
its gap timer runs; a wheel end is INCLUDED exactly when its exclusion set is empty, a faulted one shows no speed, and one
that is NOT_FITTED has the cleared values. -/
def Obligations.TyreAndWheelLawsKept : Prop :=
  KeptByEveryStep (fun s => s.rosterLaw ∧ s.receiverLaw ∧ s.wheelLaw)
end

