-- ==== Sys2Proof/Laws/State.lean ====
section
/-! SUPPORT. Laws/State.lean: each update of State: the field it writes, and the fields it leaves, all true by rfl. -/

namespace Sys2Proof.Machine

/-! ### Collections: what an update writes and what it leaves -/

@[simp] theorem PerWheel.get_set_self (t : PerWheel α) (i : Wheel) (x : α) : (t.set i x).get i = x := by cases i <;> rfl

theorem PerWheel.get_set (t : PerWheel α) (i j : Wheel) (x : α) :
    (t.set i x).get j = if i = j then x else t.get j := by cases i <;> cases j <;> rfl

theorem PerWheel.get_set_of_ne (t : PerWheel α) {i j : Wheel} (x : α) (h : i ≠ j) : (t.set i x).get j = t.get j := by
  rw [PerWheel.get_set, if_neg h]

@[simp] theorem PerWheel.get_tabulate (f : Wheel → α) (i : Wheel) : (PerWheel.tabulate f).get i = f i := by cases i <;> rfl

@[simp] theorem PerInput.get_set_self (t : PerInput α) (i : Input) (x : α) : (t.set i x).get i = x := by cases i <;> rfl

theorem PerInput.get_set (t : PerInput α) (i j : Input) (x : α) :
    (t.set i x).get j = if i = j then x else t.get j := by cases i <;> cases j <;> rfl

theorem PerInput.get_set_of_ne (t : PerInput α) {i j : Input} (x : α) (h : i ≠ j) : (t.set i x).get j = t.get j := by
  rw [PerInput.get_set, if_neg h]

@[simp] theorem PerInput.get_tabulate (f : Input → α) (i : Input) : (PerInput.tabulate f).get i = f i := by cases i <;> rfl

@[simp] theorem PerChannel.get_set_self (t : PerChannel α) (i : Channel) (x : α) : (t.set i x).get i = x := by cases i <;> rfl

theorem PerChannel.get_set (t : PerChannel α) (i j : Channel) (x : α) :
    (t.set i x).get j = if i = j then x else t.get j := by cases i <;> cases j <;> rfl

theorem PerChannel.get_set_of_ne (t : PerChannel α) {i j : Channel} (x : α) (h : i ≠ j) : (t.set i x).get j = t.get j := by
  rw [PerChannel.get_set, if_neg h]

@[simp] theorem PerChannel.get_tabulate (f : Channel → α) (i : Channel) : (PerChannel.tabulate f).get i = f i := by cases i <;> rfl

@[simp] theorem PerLevel.get_set_self (t : PerLevel α) (i : Level) (x : α) : (t.set i x).get i = x := by cases i <;> rfl

theorem PerLevel.get_set (t : PerLevel α) (i j : Level) (x : α) :
    (t.set i x).get j = if i = j then x else t.get j := by cases i <;> cases j <;> rfl

theorem PerLevel.get_set_of_ne (t : PerLevel α) {i j : Level} (x : α) (h : i ≠ j) : (t.set i x).get j = t.get j := by
  rw [PerLevel.get_set, if_neg h]

@[simp] theorem PerLevel.get_tabulate (f : Level → α) (i : Level) : (PerLevel.tabulate f).get i = f i := by cases i <;> rfl

@[simp] theorem PerRequest.get_set_self (t : PerRequest α) (i : Request) (x : α) : (t.set i x).get i = x := by cases i <;> rfl

theorem PerRequest.get_set (t : PerRequest α) (i j : Request) (x : α) :
    (t.set i x).get j = if i = j then x else t.get j := by cases i <;> cases j <;> rfl

theorem PerRequest.get_set_of_ne (t : PerRequest α) {i j : Request} (x : α) (h : i ≠ j) : (t.set i x).get j = t.get j := by
  rw [PerRequest.get_set, if_neg h]

@[simp] theorem PerRequest.get_tabulate (f : Request → α) (i : Request) : (PerRequest.tabulate f).get i = f i := by cases i <;> rfl

/-! ### Each update writes its field -/

@[simp] theorem State.elapse_uptime (s : State) (dt : Nat) : (s.elapse dt).uptime = s.uptime + dt := rfl

@[simp] theorem State.store8_mem (s : State) (a : Nat) (bs : List Byte) :
    (s.store8 a bs).mem = Memory.write s.mem a bs := rfl

@[simp] theorem State.raise_atc (s : State) (l : Level) : (s.raise l).atc = s.atc.raise l := rfl

@[simp] theorem State.holdCondition_atc (s : State) (l : Level) (b : Bool) :
    (s.holdCondition l b).atc = s.atc.follow l b := rfl

@[simp] theorem State.followJournal_atc (s : State) :
    s.followJournal.atc = s.atc.follow .journal (decide (0 < s.jrw.occupied)) := rfl

@[simp] theorem State.rewriteJournal_mem (s : State) :
    s.rewriteJournal.mem = (s.rewrite .journal s.jrw.body).mem := rfl

@[simp] theorem State.rewriteDevice_mem (s : State) :
    s.rewriteDevice.mem = (s.rewrite .device s.deviceBody).mem := rfl

@[simp] theorem State.rewriteAir_mem (s : State) : s.rewriteAir.mem = (s.rewrite .air s.airBody).mem := rfl

@[simp] theorem State.rewriteSlip_mem (s : State) : s.rewriteSlip.mem = (s.rewrite .slip s.slipBody).mem := rfl

@[simp] theorem State.rewriteModulator_mem (s : State) :
    s.rewriteModulator.mem = (s.rewrite .modulator s.modulatorBody).mem := rfl

@[simp] theorem State.rewriteLift_mem (s : State) : s.rewriteLift.mem = (s.rewrite .lift s.liftBody).mem := rfl

@[simp] theorem State.rewriteDemand_mem (s : State) :
    s.rewriteDemand.mem = (s.rewrite .demand s.demandBody).mem := rfl

@[simp] theorem State.rewriteWheels_mem (s : State) : s.rewriteWheels.mem = (s.rewrite .wheels s.wheelBody).mem := rfl

@[simp] theorem State.rewriteRollover_mem (s : State) :
    s.rewriteRollover.mem = (s.rewrite .rollover (s.rolloverBody s.lastTestAge)).mem := rfl

@[simp] theorem State.rewriteTyres_mem (s : State) : s.rewriteTyres.mem = (s.rewrite .tyres s.tyreBody).mem := rfl

@[simp] theorem State.rewriteSensors_mem (s : State) :
    s.rewriteSensors.mem = (s.rewrite .sensors s.sensorBody).mem := rfl

@[simp] theorem State.setPending_pending (s : State) (r : Request) :
    (s.setPending r).xpt.pending = s.xpt.pending.set r true := rfl

@[simp] theorem State.setPending_device (s : State) (r : Request) : (s.setPending r).xpt.device = s.xpt.device := rfl

@[simp] theorem State.setPending_reports (s : State) (r : Request) :
    (s.setPending r).xpt.reports = s.xpt.reports := rfl

@[simp] theorem State.setDevice_device (s : State) (d : Device) : (s.setDevice d).xpt.device = d := rfl

@[simp] theorem State.handTestMask_rou (s : State) :
    s.handTestMask.rou = { s.rou with degraded := s.aac.test.masked } := rfl

@[simp] theorem State.setSlip_channels (s : State) (c : Channel) (r : SlipRecord) :
    (s.setSlip c r).scu.channels = s.scu.channels.set c r := rfl

@[simp] theorem State.setSlip_group (s : State) (c : Channel) (r : SlipRecord) :
    (s.setSlip c r).scu.group = s.scu.group := rfl

@[simp] theorem State.setChan_channels (s : State) (c : Channel) (r : ChannelRecord) :
    (s.setChan c r).mdu.channels = s.mdu.channels.set c r := rfl

@[simp] theorem State.setChan_group (s : State) (c : Channel) (r : ChannelRecord) :
    (s.setChan c r).mdu.group = s.mdu.group := rfl

@[simp] theorem State.setChan_periodEnd (s : State) (c : Channel) (r : ChannelRecord) :
    (s.setChan c r).mdu.periodEnd = s.mdu.periodEnd := rfl

@[simp] theorem State.setLfc_lfc (s : State) (l : Lfc) : (s.setLfc l).lfc = l := rfl

@[simp] theorem State.zeroFrontTarget_pAxle (s : State) : s.zeroFrontTarget.ldu.front.pAxle = 0 := rfl

@[simp] theorem State.setDemand_demand (s : State) (d : Demand) : (s.setDemand d).ldu.demand = d := rfl

@[simp] theorem State.setDemand_lastPeriod (s : State) (d : Demand) :
    (s.setDemand d).ldu.lastPeriod = s.ldu.lastPeriod := rfl

@[simp] theorem State.setDemand_front (s : State) (d : Demand) : (s.setDemand d).ldu.front = s.ldu.front := rfl

@[simp] theorem State.setDemand_rear (s : State) (d : Demand) : (s.setDemand d).ldu.rear = s.ldu.rear := rfl

@[simp] theorem State.setDemand_vehicle (s : State) (d : Demand) : (s.setDemand d).ldu.vehicle = s.ldu.vehicle := rfl

@[simp] theorem State.setDemand_load (s : State) (d : Demand) : (s.setDemand d).ldu.load = s.ldu.load := rfl

@[simp] theorem State.setDemand_due (s : State) (d : Demand) : (s.setDemand d).ldu.due = s.ldu.due := rfl

@[simp] theorem State.setWheel_wheels (s : State) (w : Wheel) (r : WheelEnd) :
    (s.setWheel w r).wsu.wheels = s.wsu.wheels.set w r := rfl

@[simp] theorem State.setWheel_vref (s : State) (w : Wheel) (r : WheelEnd) :
    (s.setWheel w r).wsu.vref = s.wsu.vref := rfl

@[simp] theorem State.setWheel_candidate (s : State) (w : Wheel) (r : WheelEnd) :
    (s.setWheel w r).wsu.candidate = s.wsu.candidate := rfl

@[simp] theorem State.setWheel_includedCount (s : State) (w : Wheel) (r : WheelEnd) :
    (s.setWheel w r).wsu.includedCount = s.wsu.includedCount := rfl

@[simp] theorem State.setWheel_ramp (s : State) (w : Wheel) (r : WheelEnd) :
    (s.setWheel w r).wsu.ramp = s.wsu.ramp := rfl

@[simp] theorem State.setWheel_travel (s : State) (w : Wheel) (r : WheelEnd) :
    (s.setWheel w r).wsu.travel = s.wsu.travel := rfl

@[simp] theorem State.setWheel_due (s : State) (w : Wheel) (r : WheelEnd) :
    (s.setWheel w r).wsu.due = s.wsu.due := rfl

@[simp] theorem State.setRou_rou (s : State) (r : Rou) : (s.setRou r).rou = r := rfl

@[simp] theorem State.setTyu_tyu (s : State) (x : Tyu) : (s.setTyu x).tyu = x := rfl

@[simp] theorem State.setSlot_tyu (s : State) (k : Nat) (x : Slot) :
    (s.setSlot k x).tyu = { s.tyu with slots := s.tyu.slots.set k x } := rfl

@[simp] theorem State.setEntry_entries (s : State) (i : Input) (e : Entry) :
    (s.setEntry i e).sfe.entries = s.sfe.entries.set i e := rfl

@[simp] theorem State.setEntry_trims (s : State) (i : Input) (e : Entry) :
    (s.setEntry i e).sfe.trims = s.sfe.trims := rfl

@[simp] theorem State.setEntry_seed (s : State) (i : Input) (e : Entry) :
    (s.setEntry i e).sfe.seed = s.sfe.seed := rfl

@[simp] theorem State.setAf_rou (s : State) (af : Int) : (s.setAf af).rou = { s.rou with af := af } := rfl

@[simp] theorem State.setTxn_port (s : State) (x : Option Transaction) : (s.setTxn x).port = { s.port with txn := x } := rfl

@[simp] theorem State.poll_atc (s : State) : s.poll.atc = s.atc.poll := rfl

@[simp] theorem State.writeMask_atc (s : State) (value : Half) :
    (s.writeMask value).atc = s.atc.writeMask value := rfl

@[simp] theorem State.readHealth_health (s : State) : s.readHealth.health = s.healthAfterRead := rfl

@[simp] theorem State.carrierFound_cd (s : State) : s.carrierFound.pins.cd = true := rfl

/-! ### The records by channel, wheel end and input -/

@[simp] theorem State.setSlip_slip (s : State) (c : Channel) (r : SlipRecord) : (s.setSlip c r).slip c = r := by
  simp [State.slip]

theorem State.setSlip_slip_of_ne (s : State) {c k : Channel} (r : SlipRecord) (h : c ≠ k) :
    (s.setSlip c r).slip k = s.slip k := PerChannel.get_set_of_ne _ _ h

@[simp] theorem State.setChan_chan (s : State) (c : Channel) (r : ChannelRecord) : (s.setChan c r).chan c = r := by
  simp [State.chan]

theorem State.setChan_chan_of_ne (s : State) {c k : Channel} (r : ChannelRecord) (h : c ≠ k) :
    (s.setChan c r).chan k = s.chan k := PerChannel.get_set_of_ne _ _ h

@[simp] theorem State.setWheel_wheel (s : State) (w : Wheel) (r : WheelEnd) : (s.setWheel w r).wheel w = r := by
  simp [State.wheel]

theorem State.setWheel_wheel_of_ne (s : State) {w k : Wheel} (r : WheelEnd) (h : w ≠ k) :
    (s.setWheel w r).wheel k = s.wheel k := PerWheel.get_set_of_ne _ _ h

@[simp] theorem State.setEntry_entry (s : State) (i : Input) (e : Entry) : (s.setEntry i e).entry i = e := by
  simp [State.entry]

theorem State.setEntry_entry_of_ne (s : State) {i k : Input} (e : Entry) (h : i ≠ k) :
    (s.setEntry i e).entry k = s.entry k := PerInput.get_set_of_ne _ _ h


/-! ### Each update leaves the other components -/

@[simp] theorem State.elapse_frame (s : State) (dt : Nat) :
    (s.elapse dt).pending = s.pending ∧ (s.elapse dt).freeCount = s.freeCount ∧ (s.elapse dt).pins = s.pins ∧
    (s.elapse dt).store = s.store ∧ (s.elapse dt).load = s.load ∧ (s.elapse dt).sfe = s.sfe ∧
    (s.elapse dt).ldu = s.ldu ∧ (s.elapse dt).lfc = s.lfc ∧ (s.elapse dt).wsu = s.wsu ∧ (s.elapse dt).scu = s.scu ∧
    (s.elapse dt).mdu = s.mdu ∧ (s.elapse dt).rou = s.rou ∧ (s.elapse dt).tyu = s.tyu ∧ (s.elapse dt).aac = s.aac ∧
    (s.elapse dt).xpt = s.xpt ∧ (s.elapse dt).port = s.port ∧ (s.elapse dt).atc = s.atc ∧
    (s.elapse dt).health = s.health ∧ (s.elapse dt).jrw = s.jrw ∧ (s.elapse dt).mem = s.mem := by
  exact ⟨rfl, rfl, rfl, rfl, rfl, rfl, rfl, rfl, rfl, rfl, rfl, rfl, rfl, rfl, rfl, rfl, rfl, rfl, rfl, rfl⟩

@[simp] theorem State.store8_frame (s : State) (a : Nat) (bs : List Byte) :
    (s.store8 a bs).pending = s.pending ∧ (s.store8 a bs).uptime = s.uptime ∧
    (s.store8 a bs).freeCount = s.freeCount ∧ (s.store8 a bs).pins = s.pins ∧ (s.store8 a bs).store = s.store ∧
    (s.store8 a bs).load = s.load ∧ (s.store8 a bs).sfe = s.sfe ∧ (s.store8 a bs).ldu = s.ldu ∧
    (s.store8 a bs).lfc = s.lfc ∧ (s.store8 a bs).wsu = s.wsu ∧ (s.store8 a bs).scu = s.scu ∧
    (s.store8 a bs).mdu = s.mdu ∧ (s.store8 a bs).rou = s.rou ∧ (s.store8 a bs).tyu = s.tyu ∧
    (s.store8 a bs).aac = s.aac ∧ (s.store8 a bs).xpt = s.xpt ∧ (s.store8 a bs).port = s.port ∧
    (s.store8 a bs).atc = s.atc ∧ (s.store8 a bs).health = s.health ∧ (s.store8 a bs).jrw = s.jrw := by
  exact ⟨rfl, rfl, rfl, rfl, rfl, rfl, rfl, rfl, rfl, rfl, rfl, rfl, rfl, rfl, rfl, rfl, rfl, rfl, rfl, rfl⟩

@[simp] theorem State.rewrite_frame (s : State) (sec : Section) (body : List Item) :
    (s.rewrite sec body).pending = s.pending ∧ (s.rewrite sec body).uptime = s.uptime ∧
    (s.rewrite sec body).freeCount = s.freeCount ∧ (s.rewrite sec body).pins = s.pins ∧
    (s.rewrite sec body).store = s.store ∧ (s.rewrite sec body).load = s.load ∧ (s.rewrite sec body).sfe = s.sfe ∧
    (s.rewrite sec body).ldu = s.ldu ∧ (s.rewrite sec body).lfc = s.lfc ∧ (s.rewrite sec body).wsu = s.wsu ∧
    (s.rewrite sec body).scu = s.scu ∧ (s.rewrite sec body).mdu = s.mdu ∧ (s.rewrite sec body).rou = s.rou ∧
    (s.rewrite sec body).tyu = s.tyu ∧ (s.rewrite sec body).aac = s.aac ∧ (s.rewrite sec body).xpt = s.xpt ∧
    (s.rewrite sec body).port = s.port ∧ (s.rewrite sec body).atc = s.atc ∧ (s.rewrite sec body).health = s.health ∧
    (s.rewrite sec body).jrw = s.jrw := by
  exact ⟨rfl, rfl, rfl, rfl, rfl, rfl, rfl, rfl, rfl, rfl, rfl, rfl, rfl, rfl, rfl, rfl, rfl, rfl, rfl, rfl⟩

@[simp] theorem State.raise_frame (s : State) (l : Level) :
    (s.raise l).pending = s.pending ∧ (s.raise l).uptime = s.uptime ∧ (s.raise l).freeCount = s.freeCount ∧
    (s.raise l).pins = s.pins ∧ (s.raise l).store = s.store ∧ (s.raise l).load = s.load ∧ (s.raise l).sfe = s.sfe ∧
    (s.raise l).ldu = s.ldu ∧ (s.raise l).lfc = s.lfc ∧ (s.raise l).wsu = s.wsu ∧ (s.raise l).scu = s.scu ∧
    (s.raise l).mdu = s.mdu ∧ (s.raise l).rou = s.rou ∧ (s.raise l).tyu = s.tyu ∧ (s.raise l).aac = s.aac ∧
    (s.raise l).xpt = s.xpt ∧ (s.raise l).port = s.port ∧ (s.raise l).health = s.health ∧ (s.raise l).jrw = s.jrw ∧
    (s.raise l).mem = s.mem := by
  exact ⟨rfl, rfl, rfl, rfl, rfl, rfl, rfl, rfl, rfl, rfl, rfl, rfl, rfl, rfl, rfl, rfl, rfl, rfl, rfl, rfl⟩

@[simp] theorem State.holdCondition_frame (s : State) (l : Level) (b : Bool) :
    (s.holdCondition l b).pending = s.pending ∧ (s.holdCondition l b).uptime = s.uptime ∧
    (s.holdCondition l b).freeCount = s.freeCount ∧ (s.holdCondition l b).pins = s.pins ∧
    (s.holdCondition l b).store = s.store ∧ (s.holdCondition l b).load = s.load ∧ (s.holdCondition l b).sfe = s.sfe ∧
    (s.holdCondition l b).ldu = s.ldu ∧ (s.holdCondition l b).lfc = s.lfc ∧ (s.holdCondition l b).wsu = s.wsu ∧
    (s.holdCondition l b).scu = s.scu ∧ (s.holdCondition l b).mdu = s.mdu ∧ (s.holdCondition l b).rou = s.rou ∧
    (s.holdCondition l b).tyu = s.tyu ∧ (s.holdCondition l b).aac = s.aac ∧ (s.holdCondition l b).xpt = s.xpt ∧
    (s.holdCondition l b).port = s.port ∧ (s.holdCondition l b).health = s.health ∧
    (s.holdCondition l b).jrw = s.jrw ∧ (s.holdCondition l b).mem = s.mem := by
  exact ⟨rfl, rfl, rfl, rfl, rfl, rfl, rfl, rfl, rfl, rfl, rfl, rfl, rfl, rfl, rfl, rfl, rfl, rfl, rfl, rfl⟩

@[simp] theorem State.followJournal_frame (s : State) :
    (s.followJournal).pending = s.pending ∧ (s.followJournal).uptime = s.uptime ∧
    (s.followJournal).freeCount = s.freeCount ∧ (s.followJournal).pins = s.pins ∧ (s.followJournal).store = s.store ∧
    (s.followJournal).load = s.load ∧ (s.followJournal).sfe = s.sfe ∧ (s.followJournal).ldu = s.ldu ∧
    (s.followJournal).lfc = s.lfc ∧ (s.followJournal).wsu = s.wsu ∧ (s.followJournal).scu = s.scu ∧
    (s.followJournal).mdu = s.mdu ∧ (s.followJournal).rou = s.rou ∧ (s.followJournal).tyu = s.tyu ∧
    (s.followJournal).aac = s.aac ∧ (s.followJournal).xpt = s.xpt ∧ (s.followJournal).port = s.port ∧
    (s.followJournal).health = s.health ∧ (s.followJournal).jrw = s.jrw ∧ (s.followJournal).mem = s.mem := by
  exact ⟨rfl, rfl, rfl, rfl, rfl, rfl, rfl, rfl, rfl, rfl, rfl, rfl, rfl, rfl, rfl, rfl, rfl, rfl, rfl, rfl⟩

@[simp] theorem State.rewriteJournal_frame (s : State) :
    (s.rewriteJournal).pending = s.pending ∧ (s.rewriteJournal).uptime = s.uptime ∧
    (s.rewriteJournal).freeCount = s.freeCount ∧ (s.rewriteJournal).pins = s.pins ∧
    (s.rewriteJournal).store = s.store ∧ (s.rewriteJournal).load = s.load ∧ (s.rewriteJournal).sfe = s.sfe ∧
    (s.rewriteJournal).ldu = s.ldu ∧ (s.rewriteJournal).lfc = s.lfc ∧ (s.rewriteJournal).wsu = s.wsu ∧
    (s.rewriteJournal).scu = s.scu ∧ (s.rewriteJournal).mdu = s.mdu ∧ (s.rewriteJournal).rou = s.rou ∧
    (s.rewriteJournal).tyu = s.tyu ∧ (s.rewriteJournal).aac = s.aac ∧ (s.rewriteJournal).xpt = s.xpt ∧
    (s.rewriteJournal).port = s.port ∧ (s.rewriteJournal).atc = s.atc ∧ (s.rewriteJournal).health = s.health ∧
    (s.rewriteJournal).jrw = s.jrw := by
  exact ⟨rfl, rfl, rfl, rfl, rfl, rfl, rfl, rfl, rfl, rfl, rfl, rfl, rfl, rfl, rfl, rfl, rfl, rfl, rfl, rfl⟩

@[simp] theorem State.setPending_frame (s : State) (r : Request) :
    (s.setPending r).pending = s.pending ∧ (s.setPending r).uptime = s.uptime ∧
    (s.setPending r).freeCount = s.freeCount ∧ (s.setPending r).pins = s.pins ∧ (s.setPending r).store = s.store ∧
    (s.setPending r).load = s.load ∧ (s.setPending r).sfe = s.sfe ∧ (s.setPending r).ldu = s.ldu ∧
    (s.setPending r).lfc = s.lfc ∧ (s.setPending r).wsu = s.wsu ∧ (s.setPending r).scu = s.scu ∧
    (s.setPending r).mdu = s.mdu ∧ (s.setPending r).rou = s.rou ∧ (s.setPending r).tyu = s.tyu ∧
    (s.setPending r).aac = s.aac ∧ (s.setPending r).port = s.port ∧ (s.setPending r).atc = s.atc ∧
    (s.setPending r).health = s.health ∧ (s.setPending r).jrw = s.jrw ∧ (s.setPending r).mem = s.mem := by
  exact ⟨rfl, rfl, rfl, rfl, rfl, rfl, rfl, rfl, rfl, rfl, rfl, rfl, rfl, rfl, rfl, rfl, rfl, rfl, rfl, rfl⟩

@[simp] theorem State.rewriteDevice_frame (s : State) :
    (s.rewriteDevice).pending = s.pending ∧ (s.rewriteDevice).uptime = s.uptime ∧
    (s.rewriteDevice).freeCount = s.freeCount ∧ (s.rewriteDevice).pins = s.pins ∧ (s.rewriteDevice).store = s.store ∧
    (s.rewriteDevice).load = s.load ∧ (s.rewriteDevice).sfe = s.sfe ∧ (s.rewriteDevice).ldu = s.ldu ∧
    (s.rewriteDevice).lfc = s.lfc ∧ (s.rewriteDevice).wsu = s.wsu ∧ (s.rewriteDevice).scu = s.scu ∧
    (s.rewriteDevice).mdu = s.mdu ∧ (s.rewriteDevice).rou = s.rou ∧ (s.rewriteDevice).tyu = s.tyu ∧
    (s.rewriteDevice).aac = s.aac ∧ (s.rewriteDevice).xpt = s.xpt ∧ (s.rewriteDevice).port = s.port ∧
    (s.rewriteDevice).atc = s.atc ∧ (s.rewriteDevice).health = s.health ∧ (s.rewriteDevice).jrw = s.jrw := by
  exact ⟨rfl, rfl, rfl, rfl, rfl, rfl, rfl, rfl, rfl, rfl, rfl, rfl, rfl, rfl, rfl, rfl, rfl, rfl, rfl, rfl⟩

@[simp] theorem State.rewriteAir_frame (s : State) :
    (s.rewriteAir).pending = s.pending ∧ (s.rewriteAir).uptime = s.uptime ∧ (s.rewriteAir).freeCount = s.freeCount ∧
    (s.rewriteAir).pins = s.pins ∧ (s.rewriteAir).store = s.store ∧ (s.rewriteAir).load = s.load ∧
    (s.rewriteAir).sfe = s.sfe ∧ (s.rewriteAir).ldu = s.ldu ∧ (s.rewriteAir).lfc = s.lfc ∧
    (s.rewriteAir).wsu = s.wsu ∧ (s.rewriteAir).scu = s.scu ∧ (s.rewriteAir).mdu = s.mdu ∧
    (s.rewriteAir).rou = s.rou ∧ (s.rewriteAir).tyu = s.tyu ∧ (s.rewriteAir).aac = s.aac ∧
    (s.rewriteAir).xpt = s.xpt ∧ (s.rewriteAir).port = s.port ∧ (s.rewriteAir).atc = s.atc ∧
    (s.rewriteAir).health = s.health ∧ (s.rewriteAir).jrw = s.jrw := by
  exact ⟨rfl, rfl, rfl, rfl, rfl, rfl, rfl, rfl, rfl, rfl, rfl, rfl, rfl, rfl, rfl, rfl, rfl, rfl, rfl, rfl⟩

@[simp] theorem State.handTestMask_frame (s : State) :
    (s.handTestMask).pending = s.pending ∧ (s.handTestMask).uptime = s.uptime ∧
    (s.handTestMask).freeCount = s.freeCount ∧ (s.handTestMask).pins = s.pins ∧ (s.handTestMask).store = s.store ∧
    (s.handTestMask).load = s.load ∧ (s.handTestMask).sfe = s.sfe ∧ (s.handTestMask).ldu = s.ldu ∧
    (s.handTestMask).lfc = s.lfc ∧ (s.handTestMask).wsu = s.wsu ∧ (s.handTestMask).scu = s.scu ∧
    (s.handTestMask).mdu = s.mdu ∧ (s.handTestMask).tyu = s.tyu ∧ (s.handTestMask).aac = s.aac ∧
    (s.handTestMask).xpt = s.xpt ∧ (s.handTestMask).port = s.port ∧ (s.handTestMask).atc = s.atc ∧
    (s.handTestMask).health = s.health ∧ (s.handTestMask).jrw = s.jrw ∧ (s.handTestMask).mem = s.mem := by
  exact ⟨rfl, rfl, rfl, rfl, rfl, rfl, rfl, rfl, rfl, rfl, rfl, rfl, rfl, rfl, rfl, rfl, rfl, rfl, rfl, rfl⟩

@[simp] theorem State.setSlip_frame (s : State) (c : Channel) (r : SlipRecord) :
    (s.setSlip c r).pending = s.pending ∧ (s.setSlip c r).uptime = s.uptime ∧
    (s.setSlip c r).freeCount = s.freeCount ∧ (s.setSlip c r).pins = s.pins ∧ (s.setSlip c r).store = s.store ∧
    (s.setSlip c r).load = s.load ∧ (s.setSlip c r).sfe = s.sfe ∧ (s.setSlip c r).ldu = s.ldu ∧
    (s.setSlip c r).lfc = s.lfc ∧ (s.setSlip c r).wsu = s.wsu ∧ (s.setSlip c r).mdu = s.mdu ∧
    (s.setSlip c r).rou = s.rou ∧ (s.setSlip c r).tyu = s.tyu ∧ (s.setSlip c r).aac = s.aac ∧
    (s.setSlip c r).xpt = s.xpt ∧ (s.setSlip c r).port = s.port ∧ (s.setSlip c r).atc = s.atc ∧
    (s.setSlip c r).health = s.health ∧ (s.setSlip c r).jrw = s.jrw ∧ (s.setSlip c r).mem = s.mem := by
  exact ⟨rfl, rfl, rfl, rfl, rfl, rfl, rfl, rfl, rfl, rfl, rfl, rfl, rfl, rfl, rfl, rfl, rfl, rfl, rfl, rfl⟩

@[simp] theorem State.rewriteSlip_frame (s : State) :
    (s.rewriteSlip).pending = s.pending ∧ (s.rewriteSlip).uptime = s.uptime ∧
    (s.rewriteSlip).freeCount = s.freeCount ∧ (s.rewriteSlip).pins = s.pins ∧ (s.rewriteSlip).store = s.store ∧
    (s.rewriteSlip).load = s.load ∧ (s.rewriteSlip).sfe = s.sfe ∧ (s.rewriteSlip).ldu = s.ldu ∧
    (s.rewriteSlip).lfc = s.lfc ∧ (s.rewriteSlip).wsu = s.wsu ∧ (s.rewriteSlip).scu = s.scu ∧
    (s.rewriteSlip).mdu = s.mdu ∧ (s.rewriteSlip).rou = s.rou ∧ (s.rewriteSlip).tyu = s.tyu ∧
    (s.rewriteSlip).aac = s.aac ∧ (s.rewriteSlip).xpt = s.xpt ∧ (s.rewriteSlip).port = s.port ∧
    (s.rewriteSlip).atc = s.atc ∧ (s.rewriteSlip).health = s.health ∧ (s.rewriteSlip).jrw = s.jrw := by
  exact ⟨rfl, rfl, rfl, rfl, rfl, rfl, rfl, rfl, rfl, rfl, rfl, rfl, rfl, rfl, rfl, rfl, rfl, rfl, rfl, rfl⟩

@[simp] theorem State.setChan_frame (s : State) (c : Channel) (r : ChannelRecord) :
    (s.setChan c r).pending = s.pending ∧ (s.setChan c r).uptime = s.uptime ∧
    (s.setChan c r).freeCount = s.freeCount ∧ (s.setChan c r).pins = s.pins ∧ (s.setChan c r).store = s.store ∧
    (s.setChan c r).load = s.load ∧ (s.setChan c r).sfe = s.sfe ∧ (s.setChan c r).ldu = s.ldu ∧
    (s.setChan c r).lfc = s.lfc ∧ (s.setChan c r).wsu = s.wsu ∧ (s.setChan c r).scu = s.scu ∧
    (s.setChan c r).rou = s.rou ∧ (s.setChan c r).tyu = s.tyu ∧ (s.setChan c r).aac = s.aac ∧
    (s.setChan c r).xpt = s.xpt ∧ (s.setChan c r).port = s.port ∧ (s.setChan c r).atc = s.atc ∧
    (s.setChan c r).health = s.health ∧ (s.setChan c r).jrw = s.jrw ∧ (s.setChan c r).mem = s.mem := by
  exact ⟨rfl, rfl, rfl, rfl, rfl, rfl, rfl, rfl, rfl, rfl, rfl, rfl, rfl, rfl, rfl, rfl, rfl, rfl, rfl, rfl⟩

@[simp] theorem State.rewriteModulator_frame (s : State) :
    (s.rewriteModulator).pending = s.pending ∧ (s.rewriteModulator).uptime = s.uptime ∧
    (s.rewriteModulator).freeCount = s.freeCount ∧ (s.rewriteModulator).pins = s.pins ∧
    (s.rewriteModulator).store = s.store ∧ (s.rewriteModulator).load = s.load ∧ (s.rewriteModulator).sfe = s.sfe ∧
    (s.rewriteModulator).ldu = s.ldu ∧ (s.rewriteModulator).lfc = s.lfc ∧ (s.rewriteModulator).wsu = s.wsu ∧
    (s.rewriteModulator).scu = s.scu ∧ (s.rewriteModulator).mdu = s.mdu ∧ (s.rewriteModulator).rou = s.rou ∧
    (s.rewriteModulator).tyu = s.tyu ∧ (s.rewriteModulator).aac = s.aac ∧ (s.rewriteModulator).xpt = s.xpt ∧
    (s.rewriteModulator).port = s.port ∧ (s.rewriteModulator).atc = s.atc ∧ (s.rewriteModulator).health = s.health ∧
    (s.rewriteModulator).jrw = s.jrw := by
  exact ⟨rfl, rfl, rfl, rfl, rfl, rfl, rfl, rfl, rfl, rfl, rfl, rfl, rfl, rfl, rfl, rfl, rfl, rfl, rfl, rfl⟩

@[simp] theorem State.chanToBackup_frame (s : State) (c : Channel) :
    (s.chanToBackup c).pending = s.pending ∧ (s.chanToBackup c).uptime = s.uptime ∧
    (s.chanToBackup c).freeCount = s.freeCount ∧ (s.chanToBackup c).pins = s.pins ∧
    (s.chanToBackup c).store = s.store ∧ (s.chanToBackup c).load = s.load ∧ (s.chanToBackup c).sfe = s.sfe ∧
    (s.chanToBackup c).ldu = s.ldu ∧ (s.chanToBackup c).lfc = s.lfc ∧ (s.chanToBackup c).wsu = s.wsu ∧
    (s.chanToBackup c).scu = s.scu ∧ (s.chanToBackup c).rou = s.rou ∧ (s.chanToBackup c).tyu = s.tyu ∧
    (s.chanToBackup c).aac = s.aac ∧ (s.chanToBackup c).xpt = s.xpt ∧ (s.chanToBackup c).port = s.port ∧
    (s.chanToBackup c).atc = s.atc ∧ (s.chanToBackup c).health = s.health ∧ (s.chanToBackup c).jrw = s.jrw ∧
    (s.chanToBackup c).mem = s.mem := by
  exact ⟨rfl, rfl, rfl, rfl, rfl, rfl, rfl, rfl, rfl, rfl, rfl, rfl, rfl, rfl, rfl, rfl, rfl, rfl, rfl, rfl⟩

@[simp] theorem State.setCause_frame (s : State) (c : Channel) (k : Cause) (b : Bool) :
    (s.setCause c k b).pending = s.pending ∧ (s.setCause c k b).uptime = s.uptime ∧
    (s.setCause c k b).freeCount = s.freeCount ∧ (s.setCause c k b).pins = s.pins ∧
    (s.setCause c k b).store = s.store ∧ (s.setCause c k b).load = s.load ∧ (s.setCause c k b).sfe = s.sfe ∧
    (s.setCause c k b).ldu = s.ldu ∧ (s.setCause c k b).lfc = s.lfc ∧ (s.setCause c k b).wsu = s.wsu ∧
    (s.setCause c k b).scu = s.scu ∧ (s.setCause c k b).rou = s.rou ∧ (s.setCause c k b).tyu = s.tyu ∧
    (s.setCause c k b).aac = s.aac ∧ (s.setCause c k b).xpt = s.xpt ∧ (s.setCause c k b).port = s.port ∧
    (s.setCause c k b).atc = s.atc ∧ (s.setCause c k b).health = s.health ∧ (s.setCause c k b).jrw = s.jrw ∧
    (s.setCause c k b).mem = s.mem := by
  exact ⟨rfl, rfl, rfl, rfl, rfl, rfl, rfl, rfl, rfl, rfl, rfl, rfl, rfl, rfl, rfl, rfl, rfl, rfl, rfl, rfl⟩

@[simp] theorem State.setStanding_frame (s : State) (k : Cause) (b : Bool) :
    (s.setStanding k b).pending = s.pending ∧ (s.setStanding k b).uptime = s.uptime ∧
    (s.setStanding k b).freeCount = s.freeCount ∧ (s.setStanding k b).pins = s.pins ∧
    (s.setStanding k b).store = s.store ∧ (s.setStanding k b).load = s.load ∧ (s.setStanding k b).sfe = s.sfe ∧
    (s.setStanding k b).ldu = s.ldu ∧ (s.setStanding k b).lfc = s.lfc ∧ (s.setStanding k b).wsu = s.wsu ∧
    (s.setStanding k b).scu = s.scu ∧ (s.setStanding k b).rou = s.rou ∧ (s.setStanding k b).tyu = s.tyu ∧
    (s.setStanding k b).aac = s.aac ∧ (s.setStanding k b).xpt = s.xpt ∧ (s.setStanding k b).port = s.port ∧
    (s.setStanding k b).atc = s.atc ∧ (s.setStanding k b).health = s.health ∧ (s.setStanding k b).jrw = s.jrw ∧
    (s.setStanding k b).mem = s.mem := by
  exact ⟨rfl, rfl, rfl, rfl, rfl, rfl, rfl, rfl, rfl, rfl, rfl, rfl, rfl, rfl, rfl, rfl, rfl, rfl, rfl, rfl⟩

@[simp] theorem State.removeSourceNone_frame (s : State) :
    (s.removeSourceNone).pending = s.pending ∧ (s.removeSourceNone).uptime = s.uptime ∧
    (s.removeSourceNone).freeCount = s.freeCount ∧ (s.removeSourceNone).pins = s.pins ∧
    (s.removeSourceNone).store = s.store ∧ (s.removeSourceNone).load = s.load ∧ (s.removeSourceNone).sfe = s.sfe ∧
    (s.removeSourceNone).ldu = s.ldu ∧ (s.removeSourceNone).lfc = s.lfc ∧ (s.removeSourceNone).wsu = s.wsu ∧
    (s.removeSourceNone).scu = s.scu ∧ (s.removeSourceNone).rou = s.rou ∧ (s.removeSourceNone).tyu = s.tyu ∧
    (s.removeSourceNone).aac = s.aac ∧ (s.removeSourceNone).xpt = s.xpt ∧ (s.removeSourceNone).port = s.port ∧
    (s.removeSourceNone).atc = s.atc ∧ (s.removeSourceNone).health = s.health ∧ (s.removeSourceNone).jrw = s.jrw ∧
    (s.removeSourceNone).mem = s.mem := by
  exact ⟨rfl, rfl, rfl, rfl, rfl, rfl, rfl, rfl, rfl, rfl, rfl, rfl, rfl, rfl, rfl, rfl, rfl, rfl, rfl, rfl⟩

@[simp] theorem State.removeNotActive_frame (s : State) :
    (s.removeNotActive).pending = s.pending ∧ (s.removeNotActive).uptime = s.uptime ∧
    (s.removeNotActive).freeCount = s.freeCount ∧ (s.removeNotActive).pins = s.pins ∧
    (s.removeNotActive).store = s.store ∧ (s.removeNotActive).load = s.load ∧ (s.removeNotActive).sfe = s.sfe ∧
    (s.removeNotActive).ldu = s.ldu ∧ (s.removeNotActive).lfc = s.lfc ∧ (s.removeNotActive).wsu = s.wsu ∧
    (s.removeNotActive).scu = s.scu ∧ (s.removeNotActive).rou = s.rou ∧ (s.removeNotActive).tyu = s.tyu ∧
    (s.removeNotActive).aac = s.aac ∧ (s.removeNotActive).xpt = s.xpt ∧ (s.removeNotActive).port = s.port ∧
    (s.removeNotActive).atc = s.atc ∧ (s.removeNotActive).health = s.health ∧ (s.removeNotActive).jrw = s.jrw ∧
    (s.removeNotActive).mem = s.mem := by
  exact ⟨rfl, rfl, rfl, rfl, rfl, rfl, rfl, rfl, rfl, rfl, rfl, rfl, rfl, rfl, rfl, rfl, rfl, rfl, rfl, rfl⟩

@[simp] theorem State.backupChannel_frame (s : State) (c : Channel) :
    (s.backupChannel c).pending = s.pending ∧ (s.backupChannel c).uptime = s.uptime ∧
    (s.backupChannel c).freeCount = s.freeCount ∧ (s.backupChannel c).pins = s.pins ∧
    (s.backupChannel c).store = s.store ∧ (s.backupChannel c).load = s.load ∧ (s.backupChannel c).sfe = s.sfe ∧
    (s.backupChannel c).ldu = s.ldu ∧ (s.backupChannel c).lfc = s.lfc ∧ (s.backupChannel c).wsu = s.wsu ∧
    (s.backupChannel c).scu = s.scu ∧ (s.backupChannel c).rou = s.rou ∧ (s.backupChannel c).tyu = s.tyu ∧
    (s.backupChannel c).aac = s.aac ∧ (s.backupChannel c).xpt = s.xpt ∧ (s.backupChannel c).port = s.port ∧
    (s.backupChannel c).atc = s.atc ∧ (s.backupChannel c).health = s.health ∧ (s.backupChannel c).jrw = s.jrw ∧
    (s.backupChannel c).mem = s.mem := by
  exact ⟨rfl, rfl, rfl, rfl, rfl, rfl, rfl, rfl, rfl, rfl, rfl, rfl, rfl, rfl, rfl, rfl, rfl, rfl, rfl, rfl⟩

@[simp] theorem State.beginValvePeriod_frame (s : State) :
    (s.beginValvePeriod).pending = s.pending ∧ (s.beginValvePeriod).uptime = s.uptime ∧
    (s.beginValvePeriod).freeCount = s.freeCount ∧ (s.beginValvePeriod).pins = s.pins ∧
    (s.beginValvePeriod).store = s.store ∧ (s.beginValvePeriod).load = s.load ∧ (s.beginValvePeriod).sfe = s.sfe ∧
    (s.beginValvePeriod).ldu = s.ldu ∧ (s.beginValvePeriod).lfc = s.lfc ∧ (s.beginValvePeriod).wsu = s.wsu ∧
    (s.beginValvePeriod).scu = s.scu ∧ (s.beginValvePeriod).rou = s.rou ∧ (s.beginValvePeriod).tyu = s.tyu ∧
    (s.beginValvePeriod).aac = s.aac ∧ (s.beginValvePeriod).xpt = s.xpt ∧ (s.beginValvePeriod).port = s.port ∧
    (s.beginValvePeriod).atc = s.atc ∧ (s.beginValvePeriod).health = s.health ∧ (s.beginValvePeriod).jrw = s.jrw ∧
    (s.beginValvePeriod).mem = s.mem := by
  exact ⟨rfl, rfl, rfl, rfl, rfl, rfl, rfl, rfl, rfl, rfl, rfl, rfl, rfl, rfl, rfl, rfl, rfl, rfl, rfl, rfl⟩

@[simp] theorem State.storeIndication_frame (s : State) (c : Channel) (v : Valve) (i : Indication) :
    (s.storeIndication c v i).pending = s.pending ∧ (s.storeIndication c v i).uptime = s.uptime ∧
    (s.storeIndication c v i).freeCount = s.freeCount ∧ (s.storeIndication c v i).store = s.store ∧
    (s.storeIndication c v i).load = s.load ∧ (s.storeIndication c v i).sfe = s.sfe ∧
    (s.storeIndication c v i).ldu = s.ldu ∧ (s.storeIndication c v i).lfc = s.lfc ∧
    (s.storeIndication c v i).wsu = s.wsu ∧ (s.storeIndication c v i).scu = s.scu ∧
    (s.storeIndication c v i).rou = s.rou ∧ (s.storeIndication c v i).tyu = s.tyu ∧
    (s.storeIndication c v i).aac = s.aac ∧ (s.storeIndication c v i).xpt = s.xpt ∧
    (s.storeIndication c v i).port = s.port ∧ (s.storeIndication c v i).atc = s.atc ∧
    (s.storeIndication c v i).health = s.health ∧ (s.storeIndication c v i).jrw = s.jrw ∧
    (s.storeIndication c v i).mem = s.mem := by
  exact ⟨rfl, rfl, rfl, rfl, rfl, rfl, rfl, rfl, rfl, rfl, rfl, rfl, rfl, rfl, rfl, rfl, rfl, rfl, rfl⟩

@[simp] theorem State.setLfc_frame (s : State) (l : Lfc) :
    (s.setLfc l).pending = s.pending ∧ (s.setLfc l).uptime = s.uptime ∧ (s.setLfc l).freeCount = s.freeCount ∧
    (s.setLfc l).pins = s.pins ∧ (s.setLfc l).store = s.store ∧ (s.setLfc l).load = s.load ∧
    (s.setLfc l).sfe = s.sfe ∧ (s.setLfc l).ldu = s.ldu ∧ (s.setLfc l).wsu = s.wsu ∧ (s.setLfc l).scu = s.scu ∧
    (s.setLfc l).mdu = s.mdu ∧ (s.setLfc l).rou = s.rou ∧ (s.setLfc l).tyu = s.tyu ∧ (s.setLfc l).aac = s.aac ∧
    (s.setLfc l).xpt = s.xpt ∧ (s.setLfc l).port = s.port ∧ (s.setLfc l).atc = s.atc ∧
    (s.setLfc l).health = s.health ∧ (s.setLfc l).jrw = s.jrw ∧ (s.setLfc l).mem = s.mem := by
  exact ⟨rfl, rfl, rfl, rfl, rfl, rfl, rfl, rfl, rfl, rfl, rfl, rfl, rfl, rfl, rfl, rfl, rfl, rfl, rfl, rfl⟩

@[simp] theorem State.rewriteLift_frame (s : State) :
    (s.rewriteLift).pending = s.pending ∧ (s.rewriteLift).uptime = s.uptime ∧
    (s.rewriteLift).freeCount = s.freeCount ∧ (s.rewriteLift).pins = s.pins ∧ (s.rewriteLift).store = s.store ∧
    (s.rewriteLift).load = s.load ∧ (s.rewriteLift).sfe = s.sfe ∧ (s.rewriteLift).ldu = s.ldu ∧
    (s.rewriteLift).lfc = s.lfc ∧ (s.rewriteLift).wsu = s.wsu ∧ (s.rewriteLift).scu = s.scu ∧
    (s.rewriteLift).mdu = s.mdu ∧ (s.rewriteLift).rou = s.rou ∧ (s.rewriteLift).tyu = s.tyu ∧
    (s.rewriteLift).aac = s.aac ∧ (s.rewriteLift).xpt = s.xpt ∧ (s.rewriteLift).port = s.port ∧
    (s.rewriteLift).atc = s.atc ∧ (s.rewriteLift).health = s.health ∧ (s.rewriteLift).jrw = s.jrw := by
  exact ⟨rfl, rfl, rfl, rfl, rfl, rfl, rfl, rfl, rfl, rfl, rfl, rfl, rfl, rfl, rfl, rfl, rfl, rfl, rfl, rfl⟩

@[simp] theorem State.zeroFrontTarget_frame (s : State) :
    (s.zeroFrontTarget).pending = s.pending ∧ (s.zeroFrontTarget).uptime = s.uptime ∧
    (s.zeroFrontTarget).freeCount = s.freeCount ∧ (s.zeroFrontTarget).pins = s.pins ∧
    (s.zeroFrontTarget).store = s.store ∧ (s.zeroFrontTarget).load = s.load ∧ (s.zeroFrontTarget).sfe = s.sfe ∧
    (s.zeroFrontTarget).lfc = s.lfc ∧ (s.zeroFrontTarget).wsu = s.wsu ∧ (s.zeroFrontTarget).scu = s.scu ∧
    (s.zeroFrontTarget).mdu = s.mdu ∧ (s.zeroFrontTarget).rou = s.rou ∧ (s.zeroFrontTarget).tyu = s.tyu ∧
    (s.zeroFrontTarget).aac = s.aac ∧ (s.zeroFrontTarget).xpt = s.xpt ∧ (s.zeroFrontTarget).port = s.port ∧
    (s.zeroFrontTarget).atc = s.atc ∧ (s.zeroFrontTarget).health = s.health ∧ (s.zeroFrontTarget).jrw = s.jrw ∧
    (s.zeroFrontTarget).mem = s.mem := by
  exact ⟨rfl, rfl, rfl, rfl, rfl, rfl, rfl, rfl, rfl, rfl, rfl, rfl, rfl, rfl, rfl, rfl, rfl, rfl, rfl, rfl⟩

@[simp] theorem State.excludeLifted_frame (s : State) :
    (s.excludeLifted).pending = s.pending ∧ (s.excludeLifted).uptime = s.uptime ∧
    (s.excludeLifted).freeCount = s.freeCount ∧ (s.excludeLifted).pins = s.pins ∧ (s.excludeLifted).store = s.store ∧
    (s.excludeLifted).load = s.load ∧ (s.excludeLifted).sfe = s.sfe ∧ (s.excludeLifted).ldu = s.ldu ∧
    (s.excludeLifted).lfc = s.lfc ∧ (s.excludeLifted).scu = s.scu ∧ (s.excludeLifted).mdu = s.mdu ∧
    (s.excludeLifted).rou = s.rou ∧ (s.excludeLifted).tyu = s.tyu ∧ (s.excludeLifted).aac = s.aac ∧
    (s.excludeLifted).xpt = s.xpt ∧ (s.excludeLifted).port = s.port ∧ (s.excludeLifted).atc = s.atc ∧
    (s.excludeLifted).health = s.health ∧ (s.excludeLifted).jrw = s.jrw ∧ (s.excludeLifted).mem = s.mem := by
  exact ⟨rfl, rfl, rfl, rfl, rfl, rfl, rfl, rfl, rfl, rfl, rfl, rfl, rfl, rfl, rfl, rfl, rfl, rfl, rfl, rfl⟩

@[simp] theorem State.liftEntry_frame (s : State) :
    (s.liftEntry).pending = s.pending ∧ (s.liftEntry).uptime = s.uptime ∧ (s.liftEntry).freeCount = s.freeCount ∧
    (s.liftEntry).pins = s.pins ∧ (s.liftEntry).store = s.store ∧ (s.liftEntry).load = s.load ∧
    (s.liftEntry).sfe = s.sfe ∧ (s.liftEntry).lfc = s.lfc ∧ (s.liftEntry).scu = s.scu ∧ (s.liftEntry).mdu = s.mdu ∧
    (s.liftEntry).rou = s.rou ∧ (s.liftEntry).tyu = s.tyu ∧ (s.liftEntry).aac = s.aac ∧ (s.liftEntry).xpt = s.xpt ∧
    (s.liftEntry).port = s.port ∧ (s.liftEntry).atc = s.atc ∧ (s.liftEntry).health = s.health ∧
    (s.liftEntry).jrw = s.jrw ∧ (s.liftEntry).mem = s.mem := by
  exact ⟨rfl, rfl, rfl, rfl, rfl, rfl, rfl, rfl, rfl, rfl, rfl, rfl, rfl, rfl, rfl, rfl, rfl, rfl, rfl⟩

@[simp] theorem State.beginLowering_frame (s : State) (cause : MoveCause) :
    (s.beginLowering cause).pending = s.pending ∧ (s.beginLowering cause).uptime = s.uptime ∧
    (s.beginLowering cause).freeCount = s.freeCount ∧ (s.beginLowering cause).pins = s.pins ∧
    (s.beginLowering cause).store = s.store ∧ (s.beginLowering cause).load = s.load ∧
    (s.beginLowering cause).sfe = s.sfe ∧ (s.beginLowering cause).ldu = s.ldu ∧ (s.beginLowering cause).wsu = s.wsu ∧
    (s.beginLowering cause).scu = s.scu ∧ (s.beginLowering cause).mdu = s.mdu ∧ (s.beginLowering cause).rou = s.rou ∧
    (s.beginLowering cause).tyu = s.tyu ∧ (s.beginLowering cause).aac = s.aac ∧ (s.beginLowering cause).xpt = s.xpt ∧
    (s.beginLowering cause).port = s.port ∧ (s.beginLowering cause).atc = s.atc ∧
    (s.beginLowering cause).health = s.health ∧ (s.beginLowering cause).jrw = s.jrw ∧
    (s.beginLowering cause).mem = s.mem := by
  exact ⟨rfl, rfl, rfl, rfl, rfl, rfl, rfl, rfl, rfl, rfl, rfl, rfl, rfl, rfl, rfl, rfl, rfl, rfl, rfl, rfl⟩

@[simp] theorem State.updateLowRatio_frame (s : State) :
    (s.updateLowRatio).pending = s.pending ∧ (s.updateLowRatio).uptime = s.uptime ∧
    (s.updateLowRatio).freeCount = s.freeCount ∧ (s.updateLowRatio).pins = s.pins ∧
    (s.updateLowRatio).store = s.store ∧ (s.updateLowRatio).load = s.load ∧ (s.updateLowRatio).sfe = s.sfe ∧
    (s.updateLowRatio).ldu = s.ldu ∧ (s.updateLowRatio).wsu = s.wsu ∧ (s.updateLowRatio).scu = s.scu ∧
    (s.updateLowRatio).mdu = s.mdu ∧ (s.updateLowRatio).rou = s.rou ∧ (s.updateLowRatio).tyu = s.tyu ∧
    (s.updateLowRatio).aac = s.aac ∧ (s.updateLowRatio).xpt = s.xpt ∧ (s.updateLowRatio).port = s.port ∧
    (s.updateLowRatio).atc = s.atc ∧ (s.updateLowRatio).health = s.health ∧ (s.updateLowRatio).jrw = s.jrw ∧
    (s.updateLowRatio).mem = s.mem := by
  exact ⟨rfl, rfl, rfl, rfl, rfl, rfl, rfl, rfl, rfl, rfl, rfl, rfl, rfl, rfl, rfl, rfl, rfl, rfl, rfl, rfl⟩

@[simp] theorem State.beginRaise_frame (s : State) :
    (s.beginRaise).pending = s.pending ∧ (s.beginRaise).uptime = s.uptime ∧ (s.beginRaise).freeCount = s.freeCount ∧
    (s.beginRaise).pins = s.pins ∧ (s.beginRaise).store = s.store ∧ (s.beginRaise).load = s.load ∧
    (s.beginRaise).sfe = s.sfe ∧ (s.beginRaise).scu = s.scu ∧ (s.beginRaise).mdu = s.mdu ∧
    (s.beginRaise).rou = s.rou ∧ (s.beginRaise).tyu = s.tyu ∧ (s.beginRaise).aac = s.aac ∧
    (s.beginRaise).xpt = s.xpt ∧ (s.beginRaise).port = s.port ∧ (s.beginRaise).atc = s.atc ∧
    (s.beginRaise).health = s.health ∧ (s.beginRaise).jrw = s.jrw ∧ (s.beginRaise).mem = s.mem := by
  exact ⟨rfl, rfl, rfl, rfl, rfl, rfl, rfl, rfl, rfl, rfl, rfl, rfl, rfl, rfl, rfl, rfl, rfl, rfl⟩

@[simp] theorem State.setDemand_frame (s : State) (d : Demand) :
    (s.setDemand d).pending = s.pending ∧ (s.setDemand d).uptime = s.uptime ∧
    (s.setDemand d).freeCount = s.freeCount ∧ (s.setDemand d).pins = s.pins ∧ (s.setDemand d).store = s.store ∧
    (s.setDemand d).load = s.load ∧ (s.setDemand d).sfe = s.sfe ∧ (s.setDemand d).lfc = s.lfc ∧
    (s.setDemand d).wsu = s.wsu ∧ (s.setDemand d).scu = s.scu ∧ (s.setDemand d).mdu = s.mdu ∧
    (s.setDemand d).rou = s.rou ∧ (s.setDemand d).tyu = s.tyu ∧ (s.setDemand d).aac = s.aac ∧
    (s.setDemand d).xpt = s.xpt ∧ (s.setDemand d).port = s.port ∧ (s.setDemand d).atc = s.atc ∧
    (s.setDemand d).health = s.health ∧ (s.setDemand d).jrw = s.jrw ∧ (s.setDemand d).mem = s.mem := by
  exact ⟨rfl, rfl, rfl, rfl, rfl, rfl, rfl, rfl, rfl, rfl, rfl, rfl, rfl, rfl, rfl, rfl, rfl, rfl, rfl, rfl⟩

@[simp] theorem State.readSlot_frame (s : State) :
    (s.readSlot).pending = s.pending ∧ (s.readSlot).uptime = s.uptime ∧ (s.readSlot).freeCount = s.freeCount ∧
    (s.readSlot).pins = s.pins ∧ (s.readSlot).store = s.store ∧ (s.readSlot).load = s.load ∧
    (s.readSlot).sfe = s.sfe ∧ (s.readSlot).lfc = s.lfc ∧ (s.readSlot).wsu = s.wsu ∧ (s.readSlot).scu = s.scu ∧
    (s.readSlot).mdu = s.mdu ∧ (s.readSlot).rou = s.rou ∧ (s.readSlot).tyu = s.tyu ∧ (s.readSlot).aac = s.aac ∧
    (s.readSlot).xpt = s.xpt ∧ (s.readSlot).port = s.port ∧ (s.readSlot).atc = s.atc ∧
    (s.readSlot).health = s.health ∧ (s.readSlot).jrw = s.jrw ∧ (s.readSlot).mem = s.mem := by
  exact ⟨rfl, rfl, rfl, rfl, rfl, rfl, rfl, rfl, rfl, rfl, rfl, rfl, rfl, rfl, rfl, rfl, rfl, rfl, rfl, rfl⟩

@[simp] theorem State.judgeFreshness_frame (s : State) :
    (s.judgeFreshness).pending = s.pending ∧ (s.judgeFreshness).uptime = s.uptime ∧
    (s.judgeFreshness).freeCount = s.freeCount ∧ (s.judgeFreshness).pins = s.pins ∧
    (s.judgeFreshness).store = s.store ∧ (s.judgeFreshness).load = s.load ∧ (s.judgeFreshness).sfe = s.sfe ∧
    (s.judgeFreshness).lfc = s.lfc ∧ (s.judgeFreshness).wsu = s.wsu ∧ (s.judgeFreshness).scu = s.scu ∧
    (s.judgeFreshness).mdu = s.mdu ∧ (s.judgeFreshness).rou = s.rou ∧ (s.judgeFreshness).tyu = s.tyu ∧
    (s.judgeFreshness).aac = s.aac ∧ (s.judgeFreshness).xpt = s.xpt ∧ (s.judgeFreshness).port = s.port ∧
    (s.judgeFreshness).atc = s.atc ∧ (s.judgeFreshness).health = s.health ∧ (s.judgeFreshness).jrw = s.jrw ∧
    (s.judgeFreshness).mem = s.mem := by
  exact ⟨rfl, rfl, rfl, rfl, rfl, rfl, rfl, rfl, rfl, rfl, rfl, rfl, rfl, rfl, rfl, rfl, rfl, rfl, rfl, rfl⟩

@[simp] theorem State.setLiftHanded_frame (s : State) :
    (s.setLiftHanded).pending = s.pending ∧ (s.setLiftHanded).uptime = s.uptime ∧
    (s.setLiftHanded).freeCount = s.freeCount ∧ (s.setLiftHanded).pins = s.pins ∧ (s.setLiftHanded).store = s.store ∧
    (s.setLiftHanded).load = s.load ∧ (s.setLiftHanded).sfe = s.sfe ∧ (s.setLiftHanded).lfc = s.lfc ∧
    (s.setLiftHanded).wsu = s.wsu ∧ (s.setLiftHanded).scu = s.scu ∧ (s.setLiftHanded).mdu = s.mdu ∧
    (s.setLiftHanded).rou = s.rou ∧ (s.setLiftHanded).tyu = s.tyu ∧ (s.setLiftHanded).aac = s.aac ∧
    (s.setLiftHanded).xpt = s.xpt ∧ (s.setLiftHanded).port = s.port ∧ (s.setLiftHanded).atc = s.atc ∧
    (s.setLiftHanded).health = s.health ∧ (s.setLiftHanded).jrw = s.jrw ∧ (s.setLiftHanded).mem = s.mem := by
  exact ⟨rfl, rfl, rfl, rfl, rfl, rfl, rfl, rfl, rfl, rfl, rfl, rfl, rfl, rfl, rfl, rfl, rfl, rfl, rfl, rfl⟩

@[simp] theorem State.computeDemand_frame (s : State) :
    (s.computeDemand).pending = s.pending ∧ (s.computeDemand).uptime = s.uptime ∧
    (s.computeDemand).freeCount = s.freeCount ∧ (s.computeDemand).pins = s.pins ∧ (s.computeDemand).store = s.store ∧
    (s.computeDemand).load = s.load ∧ (s.computeDemand).sfe = s.sfe ∧ (s.computeDemand).lfc = s.lfc ∧
    (s.computeDemand).wsu = s.wsu ∧ (s.computeDemand).scu = s.scu ∧ (s.computeDemand).mdu = s.mdu ∧
    (s.computeDemand).rou = s.rou ∧ (s.computeDemand).tyu = s.tyu ∧ (s.computeDemand).aac = s.aac ∧
    (s.computeDemand).xpt = s.xpt ∧ (s.computeDemand).port = s.port ∧ (s.computeDemand).atc = s.atc ∧
    (s.computeDemand).health = s.health ∧ (s.computeDemand).jrw = s.jrw ∧ (s.computeDemand).mem = s.mem := by
  exact ⟨rfl, rfl, rfl, rfl, rfl, rfl, rfl, rfl, rfl, rfl, rfl, rfl, rfl, rfl, rfl, rfl, rfl, rfl, rfl, rfl⟩

@[simp] theorem State.rewriteDemand_frame (s : State) :
    (s.rewriteDemand).pending = s.pending ∧ (s.rewriteDemand).uptime = s.uptime ∧
    (s.rewriteDemand).freeCount = s.freeCount ∧ (s.rewriteDemand).pins = s.pins ∧ (s.rewriteDemand).store = s.store ∧
    (s.rewriteDemand).load = s.load ∧ (s.rewriteDemand).sfe = s.sfe ∧ (s.rewriteDemand).ldu = s.ldu ∧
    (s.rewriteDemand).lfc = s.lfc ∧ (s.rewriteDemand).wsu = s.wsu ∧ (s.rewriteDemand).scu = s.scu ∧
    (s.rewriteDemand).mdu = s.mdu ∧ (s.rewriteDemand).rou = s.rou ∧ (s.rewriteDemand).tyu = s.tyu ∧
    (s.rewriteDemand).aac = s.aac ∧ (s.rewriteDemand).xpt = s.xpt ∧ (s.rewriteDemand).port = s.port ∧
    (s.rewriteDemand).atc = s.atc ∧ (s.rewriteDemand).health = s.health ∧ (s.rewriteDemand).jrw = s.jrw := by
  exact ⟨rfl, rfl, rfl, rfl, rfl, rfl, rfl, rfl, rfl, rfl, rfl, rfl, rfl, rfl, rfl, rfl, rfl, rfl, rfl, rfl⟩

@[simp] theorem State.beginLduPeriod_frame (s : State) :
    (s.beginLduPeriod).pending = s.pending ∧ (s.beginLduPeriod).uptime = s.uptime ∧
    (s.beginLduPeriod).freeCount = s.freeCount ∧ (s.beginLduPeriod).pins = s.pins ∧
    (s.beginLduPeriod).store = s.store ∧ (s.beginLduPeriod).load = s.load ∧ (s.beginLduPeriod).sfe = s.sfe ∧
    (s.beginLduPeriod).lfc = s.lfc ∧ (s.beginLduPeriod).wsu = s.wsu ∧ (s.beginLduPeriod).scu = s.scu ∧
    (s.beginLduPeriod).mdu = s.mdu ∧ (s.beginLduPeriod).rou = s.rou ∧ (s.beginLduPeriod).tyu = s.tyu ∧
    (s.beginLduPeriod).aac = s.aac ∧ (s.beginLduPeriod).xpt = s.xpt ∧ (s.beginLduPeriod).port = s.port ∧
    (s.beginLduPeriod).atc = s.atc ∧ (s.beginLduPeriod).health = s.health ∧ (s.beginLduPeriod).jrw = s.jrw ∧
    (s.beginLduPeriod).mem = s.mem := by
  exact ⟨rfl, rfl, rfl, rfl, rfl, rfl, rfl, rfl, rfl, rfl, rfl, rfl, rfl, rfl, rfl, rfl, rfl, rfl, rfl, rfl⟩

@[simp] theorem State.setWheel_frame (s : State) (w : Wheel) (r : WheelEnd) :
    (s.setWheel w r).pending = s.pending ∧ (s.setWheel w r).uptime = s.uptime ∧
    (s.setWheel w r).freeCount = s.freeCount ∧ (s.setWheel w r).pins = s.pins ∧ (s.setWheel w r).store = s.store ∧
    (s.setWheel w r).load = s.load ∧ (s.setWheel w r).sfe = s.sfe ∧ (s.setWheel w r).ldu = s.ldu ∧
    (s.setWheel w r).lfc = s.lfc ∧ (s.setWheel w r).scu = s.scu ∧ (s.setWheel w r).mdu = s.mdu ∧
    (s.setWheel w r).rou = s.rou ∧ (s.setWheel w r).tyu = s.tyu ∧ (s.setWheel w r).aac = s.aac ∧
    (s.setWheel w r).xpt = s.xpt ∧ (s.setWheel w r).port = s.port ∧ (s.setWheel w r).atc = s.atc ∧
    (s.setWheel w r).health = s.health ∧ (s.setWheel w r).jrw = s.jrw ∧ (s.setWheel w r).mem = s.mem := by
  exact ⟨rfl, rfl, rfl, rfl, rfl, rfl, rfl, rfl, rfl, rfl, rfl, rfl, rfl, rfl, rfl, rfl, rfl, rfl, rfl, rfl⟩

@[simp] theorem State.computeReference_frame (s : State) :
    (s.computeReference).pending = s.pending ∧ (s.computeReference).uptime = s.uptime ∧
    (s.computeReference).freeCount = s.freeCount ∧ (s.computeReference).pins = s.pins ∧
    (s.computeReference).store = s.store ∧ (s.computeReference).load = s.load ∧ (s.computeReference).sfe = s.sfe ∧
    (s.computeReference).ldu = s.ldu ∧ (s.computeReference).lfc = s.lfc ∧ (s.computeReference).scu = s.scu ∧
    (s.computeReference).mdu = s.mdu ∧ (s.computeReference).rou = s.rou ∧ (s.computeReference).tyu = s.tyu ∧
    (s.computeReference).aac = s.aac ∧ (s.computeReference).xpt = s.xpt ∧ (s.computeReference).port = s.port ∧
    (s.computeReference).atc = s.atc ∧ (s.computeReference).health = s.health ∧ (s.computeReference).jrw = s.jrw ∧
    (s.computeReference).mem = s.mem := by
  exact ⟨rfl, rfl, rfl, rfl, rfl, rfl, rfl, rfl, rfl, rfl, rfl, rfl, rfl, rfl, rfl, rfl, rfl, rfl, rfl, rfl⟩

@[simp] theorem State.rewriteWheels_frame (s : State) :
    (s.rewriteWheels).pending = s.pending ∧ (s.rewriteWheels).uptime = s.uptime ∧
    (s.rewriteWheels).freeCount = s.freeCount ∧ (s.rewriteWheels).pins = s.pins ∧ (s.rewriteWheels).store = s.store ∧
    (s.rewriteWheels).load = s.load ∧ (s.rewriteWheels).sfe = s.sfe ∧ (s.rewriteWheels).ldu = s.ldu ∧
    (s.rewriteWheels).lfc = s.lfc ∧ (s.rewriteWheels).wsu = s.wsu ∧ (s.rewriteWheels).scu = s.scu ∧
    (s.rewriteWheels).mdu = s.mdu ∧ (s.rewriteWheels).rou = s.rou ∧ (s.rewriteWheels).tyu = s.tyu ∧
    (s.rewriteWheels).aac = s.aac ∧ (s.rewriteWheels).xpt = s.xpt ∧ (s.rewriteWheels).port = s.port ∧
    (s.rewriteWheels).atc = s.atc ∧ (s.rewriteWheels).health = s.health ∧ (s.rewriteWheels).jrw = s.jrw := by
  exact ⟨rfl, rfl, rfl, rfl, rfl, rfl, rfl, rfl, rfl, rfl, rfl, rfl, rfl, rfl, rfl, rfl, rfl, rfl, rfl, rfl⟩

@[simp] theorem State.beginWindow_frame (s : State) :
    (s.beginWindow).pending = s.pending ∧ (s.beginWindow).uptime = s.uptime ∧
    (s.beginWindow).freeCount = s.freeCount ∧ (s.beginWindow).pins = s.pins ∧ (s.beginWindow).store = s.store ∧
    (s.beginWindow).load = s.load ∧ (s.beginWindow).sfe = s.sfe ∧ (s.beginWindow).ldu = s.ldu ∧
    (s.beginWindow).lfc = s.lfc ∧ (s.beginWindow).scu = s.scu ∧ (s.beginWindow).mdu = s.mdu ∧
    (s.beginWindow).rou = s.rou ∧ (s.beginWindow).tyu = s.tyu ∧ (s.beginWindow).aac = s.aac ∧
    (s.beginWindow).xpt = s.xpt ∧ (s.beginWindow).port = s.port ∧ (s.beginWindow).atc = s.atc ∧
    (s.beginWindow).health = s.health ∧ (s.beginWindow).jrw = s.jrw ∧ (s.beginWindow).mem = s.mem := by
  exact ⟨rfl, rfl, rfl, rfl, rfl, rfl, rfl, rfl, rfl, rfl, rfl, rfl, rfl, rfl, rfl, rfl, rfl, rfl, rfl, rfl⟩

@[simp] theorem State.leaveOff_frame (s : State) (c : Channel) :
    (s.leaveOff c).pending = s.pending ∧ (s.leaveOff c).uptime = s.uptime ∧ (s.leaveOff c).freeCount = s.freeCount ∧
    (s.leaveOff c).pins = s.pins ∧ (s.leaveOff c).store = s.store ∧ (s.leaveOff c).load = s.load ∧
    (s.leaveOff c).sfe = s.sfe ∧ (s.leaveOff c).ldu = s.ldu ∧ (s.leaveOff c).lfc = s.lfc ∧
    (s.leaveOff c).wsu = s.wsu ∧ (s.leaveOff c).mdu = s.mdu ∧ (s.leaveOff c).rou = s.rou ∧
    (s.leaveOff c).tyu = s.tyu ∧ (s.leaveOff c).aac = s.aac ∧ (s.leaveOff c).xpt = s.xpt ∧
    (s.leaveOff c).port = s.port ∧ (s.leaveOff c).atc = s.atc ∧ (s.leaveOff c).health = s.health ∧
    (s.leaveOff c).jrw = s.jrw ∧ (s.leaveOff c).mem = s.mem := by
  exact ⟨rfl, rfl, rfl, rfl, rfl, rfl, rfl, rfl, rfl, rfl, rfl, rfl, rfl, rfl, rfl, rfl, rfl, rfl, rfl, rfl⟩

@[simp] theorem State.adoptSlipGroup_frame (s : State) (g : SlipGroup) :
    (s.adoptSlipGroup g).pending = s.pending ∧ (s.adoptSlipGroup g).uptime = s.uptime ∧
    (s.adoptSlipGroup g).freeCount = s.freeCount ∧ (s.adoptSlipGroup g).pins = s.pins ∧
    (s.adoptSlipGroup g).store = s.store ∧ (s.adoptSlipGroup g).load = s.load ∧ (s.adoptSlipGroup g).sfe = s.sfe ∧
    (s.adoptSlipGroup g).ldu = s.ldu ∧ (s.adoptSlipGroup g).lfc = s.lfc ∧ (s.adoptSlipGroup g).wsu = s.wsu ∧
    (s.adoptSlipGroup g).mdu = s.mdu ∧ (s.adoptSlipGroup g).rou = s.rou ∧ (s.adoptSlipGroup g).tyu = s.tyu ∧
    (s.adoptSlipGroup g).aac = s.aac ∧ (s.adoptSlipGroup g).xpt = s.xpt ∧ (s.adoptSlipGroup g).port = s.port ∧
    (s.adoptSlipGroup g).atc = s.atc ∧ (s.adoptSlipGroup g).health = s.health ∧ (s.adoptSlipGroup g).jrw = s.jrw ∧
    (s.adoptSlipGroup g).mem = s.mem := by
  exact ⟨rfl, rfl, rfl, rfl, rfl, rfl, rfl, rfl, rfl, rfl, rfl, rfl, rfl, rfl, rfl, rfl, rfl, rfl, rfl, rfl⟩

@[simp] theorem State.advanceRebuild_frame (s : State) (c : Channel) :
    (s.advanceRebuild c).pending = s.pending ∧ (s.advanceRebuild c).uptime = s.uptime ∧
    (s.advanceRebuild c).freeCount = s.freeCount ∧ (s.advanceRebuild c).pins = s.pins ∧
    (s.advanceRebuild c).store = s.store ∧ (s.advanceRebuild c).load = s.load ∧ (s.advanceRebuild c).sfe = s.sfe ∧
    (s.advanceRebuild c).ldu = s.ldu ∧ (s.advanceRebuild c).lfc = s.lfc ∧ (s.advanceRebuild c).wsu = s.wsu ∧
    (s.advanceRebuild c).mdu = s.mdu ∧ (s.advanceRebuild c).rou = s.rou ∧ (s.advanceRebuild c).tyu = s.tyu ∧
    (s.advanceRebuild c).aac = s.aac ∧ (s.advanceRebuild c).xpt = s.xpt ∧ (s.advanceRebuild c).port = s.port ∧
    (s.advanceRebuild c).atc = s.atc ∧ (s.advanceRebuild c).health = s.health ∧ (s.advanceRebuild c).jrw = s.jrw ∧
    (s.advanceRebuild c).mem = s.mem := by
  exact ⟨rfl, rfl, rfl, rfl, rfl, rfl, rfl, rfl, rfl, rfl, rfl, rfl, rfl, rfl, rfl, rfl, rfl, rfl, rfl, rfl⟩

@[simp] theorem State.setRou_frame (s : State) (r : Rou) :
    (s.setRou r).pending = s.pending ∧ (s.setRou r).uptime = s.uptime ∧ (s.setRou r).freeCount = s.freeCount ∧
    (s.setRou r).pins = s.pins ∧ (s.setRou r).store = s.store ∧ (s.setRou r).load = s.load ∧
    (s.setRou r).sfe = s.sfe ∧ (s.setRou r).ldu = s.ldu ∧ (s.setRou r).lfc = s.lfc ∧ (s.setRou r).wsu = s.wsu ∧
    (s.setRou r).scu = s.scu ∧ (s.setRou r).mdu = s.mdu ∧ (s.setRou r).tyu = s.tyu ∧ (s.setRou r).aac = s.aac ∧
    (s.setRou r).xpt = s.xpt ∧ (s.setRou r).port = s.port ∧ (s.setRou r).atc = s.atc ∧
    (s.setRou r).health = s.health ∧ (s.setRou r).jrw = s.jrw ∧ (s.setRou r).mem = s.mem := by
  exact ⟨rfl, rfl, rfl, rfl, rfl, rfl, rfl, rfl, rfl, rfl, rfl, rfl, rfl, rfl, rfl, rfl, rfl, rfl, rfl, rfl⟩

@[simp] theorem State.rewriteRollover_frame (s : State) :
    (s.rewriteRollover).pending = s.pending ∧ (s.rewriteRollover).uptime = s.uptime ∧
    (s.rewriteRollover).freeCount = s.freeCount ∧ (s.rewriteRollover).pins = s.pins ∧
    (s.rewriteRollover).store = s.store ∧ (s.rewriteRollover).load = s.load ∧ (s.rewriteRollover).sfe = s.sfe ∧
    (s.rewriteRollover).ldu = s.ldu ∧ (s.rewriteRollover).lfc = s.lfc ∧ (s.rewriteRollover).wsu = s.wsu ∧
    (s.rewriteRollover).scu = s.scu ∧ (s.rewriteRollover).mdu = s.mdu ∧ (s.rewriteRollover).rou = s.rou ∧
    (s.rewriteRollover).tyu = s.tyu ∧ (s.rewriteRollover).aac = s.aac ∧ (s.rewriteRollover).xpt = s.xpt ∧
    (s.rewriteRollover).port = s.port ∧ (s.rewriteRollover).atc = s.atc ∧ (s.rewriteRollover).health = s.health ∧
    (s.rewriteRollover).jrw = s.jrw := by
  exact ⟨rfl, rfl, rfl, rfl, rfl, rfl, rfl, rfl, rfl, rfl, rfl, rfl, rfl, rfl, rfl, rfl, rfl, rfl, rfl, rfl⟩

@[simp] theorem State.computeThreshold_frame (s : State) :
    (s.computeThreshold).pending = s.pending ∧ (s.computeThreshold).uptime = s.uptime ∧
    (s.computeThreshold).freeCount = s.freeCount ∧ (s.computeThreshold).pins = s.pins ∧
    (s.computeThreshold).store = s.store ∧ (s.computeThreshold).load = s.load ∧ (s.computeThreshold).sfe = s.sfe ∧
    (s.computeThreshold).ldu = s.ldu ∧ (s.computeThreshold).lfc = s.lfc ∧ (s.computeThreshold).wsu = s.wsu ∧
    (s.computeThreshold).scu = s.scu ∧ (s.computeThreshold).mdu = s.mdu ∧ (s.computeThreshold).tyu = s.tyu ∧
    (s.computeThreshold).aac = s.aac ∧ (s.computeThreshold).xpt = s.xpt ∧ (s.computeThreshold).port = s.port ∧
    (s.computeThreshold).atc = s.atc ∧ (s.computeThreshold).health = s.health ∧ (s.computeThreshold).jrw = s.jrw ∧
    (s.computeThreshold).mem = s.mem := by
  exact ⟨rfl, rfl, rfl, rfl, rfl, rfl, rfl, rfl, rfl, rfl, rfl, rfl, rfl, rfl, rfl, rfl, rfl, rfl, rfl, rfl⟩

@[simp] theorem State.computeTransfer_frame (s : State) :
    (s.computeTransfer).pending = s.pending ∧ (s.computeTransfer).uptime = s.uptime ∧
    (s.computeTransfer).freeCount = s.freeCount ∧ (s.computeTransfer).pins = s.pins ∧
    (s.computeTransfer).store = s.store ∧ (s.computeTransfer).load = s.load ∧ (s.computeTransfer).sfe = s.sfe ∧
    (s.computeTransfer).ldu = s.ldu ∧ (s.computeTransfer).lfc = s.lfc ∧ (s.computeTransfer).wsu = s.wsu ∧
    (s.computeTransfer).scu = s.scu ∧ (s.computeTransfer).mdu = s.mdu ∧ (s.computeTransfer).tyu = s.tyu ∧
    (s.computeTransfer).aac = s.aac ∧ (s.computeTransfer).xpt = s.xpt ∧ (s.computeTransfer).port = s.port ∧
    (s.computeTransfer).atc = s.atc ∧ (s.computeTransfer).health = s.health ∧ (s.computeTransfer).jrw = s.jrw ∧
    (s.computeTransfer).mem = s.mem := by
  exact ⟨rfl, rfl, rfl, rfl, rfl, rfl, rfl, rfl, rfl, rfl, rfl, rfl, rfl, rfl, rfl, rfl, rfl, rfl, rfl, rfl⟩

@[simp] theorem State.raisePeak_frame (s : State) :
    (s.raisePeak).pending = s.pending ∧ (s.raisePeak).uptime = s.uptime ∧ (s.raisePeak).freeCount = s.freeCount ∧
    (s.raisePeak).pins = s.pins ∧ (s.raisePeak).store = s.store ∧ (s.raisePeak).load = s.load ∧
    (s.raisePeak).sfe = s.sfe ∧ (s.raisePeak).ldu = s.ldu ∧ (s.raisePeak).lfc = s.lfc ∧ (s.raisePeak).wsu = s.wsu ∧
    (s.raisePeak).scu = s.scu ∧ (s.raisePeak).mdu = s.mdu ∧ (s.raisePeak).tyu = s.tyu ∧ (s.raisePeak).aac = s.aac ∧
    (s.raisePeak).xpt = s.xpt ∧ (s.raisePeak).port = s.port ∧ (s.raisePeak).atc = s.atc ∧
    (s.raisePeak).health = s.health ∧ (s.raisePeak).jrw = s.jrw ∧ (s.raisePeak).mem = s.mem := by
  exact ⟨rfl, rfl, rfl, rfl, rfl, rfl, rfl, rfl, rfl, rfl, rfl, rfl, rfl, rfl, rfl, rfl, rfl, rfl, rfl, rfl⟩

@[simp] theorem State.setRequests_frame (s : State) (entered : Bool) :
    (s.setRequests entered).pending = s.pending ∧ (s.setRequests entered).uptime = s.uptime ∧
    (s.setRequests entered).freeCount = s.freeCount ∧ (s.setRequests entered).pins = s.pins ∧
    (s.setRequests entered).store = s.store ∧ (s.setRequests entered).load = s.load ∧
    (s.setRequests entered).sfe = s.sfe ∧ (s.setRequests entered).ldu = s.ldu ∧ (s.setRequests entered).lfc = s.lfc ∧
    (s.setRequests entered).wsu = s.wsu ∧ (s.setRequests entered).scu = s.scu ∧ (s.setRequests entered).mdu = s.mdu ∧
    (s.setRequests entered).tyu = s.tyu ∧ (s.setRequests entered).aac = s.aac ∧ (s.setRequests entered).xpt = s.xpt ∧
    (s.setRequests entered).port = s.port ∧ (s.setRequests entered).atc = s.atc ∧
    (s.setRequests entered).health = s.health ∧ (s.setRequests entered).jrw = s.jrw ∧
    (s.setRequests entered).mem = s.mem := by
  exact ⟨rfl, rfl, rfl, rfl, rfl, rfl, rfl, rfl, rfl, rfl, rfl, rfl, rfl, rfl, rfl, rfl, rfl, rfl, rfl, rfl⟩

@[simp] theorem State.beginEvaluation_frame (s : State) :
    (s.beginEvaluation).pending = s.pending ∧ (s.beginEvaluation).uptime = s.uptime ∧
    (s.beginEvaluation).freeCount = s.freeCount ∧ (s.beginEvaluation).pins = s.pins ∧
    (s.beginEvaluation).store = s.store ∧ (s.beginEvaluation).load = s.load ∧ (s.beginEvaluation).sfe = s.sfe ∧
    (s.beginEvaluation).ldu = s.ldu ∧ (s.beginEvaluation).lfc = s.lfc ∧ (s.beginEvaluation).wsu = s.wsu ∧
    (s.beginEvaluation).scu = s.scu ∧ (s.beginEvaluation).mdu = s.mdu ∧ (s.beginEvaluation).tyu = s.tyu ∧
    (s.beginEvaluation).aac = s.aac ∧ (s.beginEvaluation).xpt = s.xpt ∧ (s.beginEvaluation).port = s.port ∧
    (s.beginEvaluation).atc = s.atc ∧ (s.beginEvaluation).health = s.health ∧ (s.beginEvaluation).jrw = s.jrw ∧
    (s.beginEvaluation).mem = s.mem := by
  exact ⟨rfl, rfl, rfl, rfl, rfl, rfl, rfl, rfl, rfl, rfl, rfl, rfl, rfl, rfl, rfl, rfl, rfl, rfl, rfl, rfl⟩

@[simp] theorem State.setTyu_frame (s : State) (x : Tyu) :
    (s.setTyu x).pending = s.pending ∧ (s.setTyu x).uptime = s.uptime ∧ (s.setTyu x).freeCount = s.freeCount ∧
    (s.setTyu x).pins = s.pins ∧ (s.setTyu x).store = s.store ∧ (s.setTyu x).load = s.load ∧
    (s.setTyu x).sfe = s.sfe ∧ (s.setTyu x).ldu = s.ldu ∧ (s.setTyu x).lfc = s.lfc ∧ (s.setTyu x).wsu = s.wsu ∧
    (s.setTyu x).scu = s.scu ∧ (s.setTyu x).mdu = s.mdu ∧ (s.setTyu x).rou = s.rou ∧ (s.setTyu x).aac = s.aac ∧
    (s.setTyu x).xpt = s.xpt ∧ (s.setTyu x).port = s.port ∧ (s.setTyu x).atc = s.atc ∧
    (s.setTyu x).health = s.health ∧ (s.setTyu x).jrw = s.jrw ∧ (s.setTyu x).mem = s.mem := by
  exact ⟨rfl, rfl, rfl, rfl, rfl, rfl, rfl, rfl, rfl, rfl, rfl, rfl, rfl, rfl, rfl, rfl, rfl, rfl, rfl, rfl⟩

@[simp] theorem State.setSlot_frame (s : State) (k : Nat) (x : Slot) :
    (s.setSlot k x).pending = s.pending ∧ (s.setSlot k x).uptime = s.uptime ∧
    (s.setSlot k x).freeCount = s.freeCount ∧ (s.setSlot k x).pins = s.pins ∧ (s.setSlot k x).store = s.store ∧
    (s.setSlot k x).load = s.load ∧ (s.setSlot k x).sfe = s.sfe ∧ (s.setSlot k x).ldu = s.ldu ∧
    (s.setSlot k x).lfc = s.lfc ∧ (s.setSlot k x).wsu = s.wsu ∧ (s.setSlot k x).scu = s.scu ∧
    (s.setSlot k x).mdu = s.mdu ∧ (s.setSlot k x).rou = s.rou ∧ (s.setSlot k x).aac = s.aac ∧
    (s.setSlot k x).xpt = s.xpt ∧ (s.setSlot k x).port = s.port ∧ (s.setSlot k x).atc = s.atc ∧
    (s.setSlot k x).health = s.health ∧ (s.setSlot k x).jrw = s.jrw ∧ (s.setSlot k x).mem = s.mem := by
  exact ⟨rfl, rfl, rfl, rfl, rfl, rfl, rfl, rfl, rfl, rfl, rfl, rfl, rfl, rfl, rfl, rfl, rfl, rfl, rfl, rfl⟩

@[simp] theorem State.rewriteTyres_frame (s : State) :
    (s.rewriteTyres).pending = s.pending ∧ (s.rewriteTyres).uptime = s.uptime ∧
    (s.rewriteTyres).freeCount = s.freeCount ∧ (s.rewriteTyres).pins = s.pins ∧ (s.rewriteTyres).store = s.store ∧
    (s.rewriteTyres).load = s.load ∧ (s.rewriteTyres).sfe = s.sfe ∧ (s.rewriteTyres).ldu = s.ldu ∧
    (s.rewriteTyres).lfc = s.lfc ∧ (s.rewriteTyres).wsu = s.wsu ∧ (s.rewriteTyres).scu = s.scu ∧
    (s.rewriteTyres).mdu = s.mdu ∧ (s.rewriteTyres).rou = s.rou ∧ (s.rewriteTyres).tyu = s.tyu ∧
    (s.rewriteTyres).aac = s.aac ∧ (s.rewriteTyres).xpt = s.xpt ∧ (s.rewriteTyres).port = s.port ∧
    (s.rewriteTyres).atc = s.atc ∧ (s.rewriteTyres).health = s.health ∧ (s.rewriteTyres).jrw = s.jrw := by
  exact ⟨rfl, rfl, rfl, rfl, rfl, rfl, rfl, rfl, rfl, rfl, rfl, rfl, rfl, rfl, rfl, rfl, rfl, rfl, rfl, rfl⟩

@[simp] theorem State.recomputeExports_frame (s : State) :
    (s.recomputeExports).pending = s.pending ∧ (s.recomputeExports).uptime = s.uptime ∧
    (s.recomputeExports).freeCount = s.freeCount ∧ (s.recomputeExports).pins = s.pins ∧
    (s.recomputeExports).store = s.store ∧ (s.recomputeExports).load = s.load ∧ (s.recomputeExports).sfe = s.sfe ∧
    (s.recomputeExports).ldu = s.ldu ∧ (s.recomputeExports).lfc = s.lfc ∧ (s.recomputeExports).wsu = s.wsu ∧
    (s.recomputeExports).scu = s.scu ∧ (s.recomputeExports).mdu = s.mdu ∧ (s.recomputeExports).rou = s.rou ∧
    (s.recomputeExports).aac = s.aac ∧ (s.recomputeExports).xpt = s.xpt ∧ (s.recomputeExports).port = s.port ∧
    (s.recomputeExports).atc = s.atc ∧ (s.recomputeExports).health = s.health ∧ (s.recomputeExports).jrw = s.jrw ∧
    (s.recomputeExports).mem = s.mem := by
  exact ⟨rfl, rfl, rfl, rfl, rfl, rfl, rfl, rfl, rfl, rfl, rfl, rfl, rfl, rfl, rfl, rfl, rfl, rfl, rfl, rfl⟩

@[simp] theorem State.adoptTyreGroup_frame (s : State) (ws : List Nat) :
    (s.adoptTyreGroup ws).pending = s.pending ∧ (s.adoptTyreGroup ws).uptime = s.uptime ∧
    (s.adoptTyreGroup ws).freeCount = s.freeCount ∧ (s.adoptTyreGroup ws).pins = s.pins ∧
    (s.adoptTyreGroup ws).store = s.store ∧ (s.adoptTyreGroup ws).load = s.load ∧ (s.adoptTyreGroup ws).sfe = s.sfe ∧
    (s.adoptTyreGroup ws).ldu = s.ldu ∧ (s.adoptTyreGroup ws).lfc = s.lfc ∧ (s.adoptTyreGroup ws).wsu = s.wsu ∧
    (s.adoptTyreGroup ws).scu = s.scu ∧ (s.adoptTyreGroup ws).mdu = s.mdu ∧ (s.adoptTyreGroup ws).rou = s.rou ∧
    (s.adoptTyreGroup ws).aac = s.aac ∧ (s.adoptTyreGroup ws).xpt = s.xpt ∧ (s.adoptTyreGroup ws).port = s.port ∧
    (s.adoptTyreGroup ws).atc = s.atc ∧ (s.adoptTyreGroup ws).health = s.health ∧ (s.adoptTyreGroup ws).jrw = s.jrw ∧
    (s.adoptTyreGroup ws).mem = s.mem := by
  exact ⟨rfl, rfl, rfl, rfl, rfl, rfl, rfl, rfl, rfl, rfl, rfl, rfl, rfl, rfl, rfl, rfl, rfl, rfl, rfl, rfl⟩

@[simp] theorem State.carrierFound_frame (s : State) :
    (s.carrierFound).pending = s.pending ∧ (s.carrierFound).uptime = s.uptime ∧
    (s.carrierFound).freeCount = s.freeCount ∧ (s.carrierFound).store = s.store ∧ (s.carrierFound).load = s.load ∧
    (s.carrierFound).sfe = s.sfe ∧ (s.carrierFound).ldu = s.ldu ∧ (s.carrierFound).lfc = s.lfc ∧
    (s.carrierFound).wsu = s.wsu ∧ (s.carrierFound).scu = s.scu ∧ (s.carrierFound).mdu = s.mdu ∧
    (s.carrierFound).rou = s.rou ∧ (s.carrierFound).tyu = s.tyu ∧ (s.carrierFound).aac = s.aac ∧
    (s.carrierFound).xpt = s.xpt ∧ (s.carrierFound).port = s.port ∧ (s.carrierFound).atc = s.atc ∧
    (s.carrierFound).health = s.health ∧ (s.carrierFound).jrw = s.jrw ∧ (s.carrierFound).mem = s.mem := by
  exact ⟨rfl, rfl, rfl, rfl, rfl, rfl, rfl, rfl, rfl, rfl, rfl, rfl, rfl, rfl, rfl, rfl, rfl, rfl, rfl, rfl⟩

@[simp] theorem State.beginScan_frame (s : State) :
    (s.beginScan).pending = s.pending ∧ (s.beginScan).uptime = s.uptime ∧ (s.beginScan).freeCount = s.freeCount ∧
    (s.beginScan).pins = s.pins ∧ (s.beginScan).store = s.store ∧ (s.beginScan).load = s.load ∧
    (s.beginScan).sfe = s.sfe ∧ (s.beginScan).ldu = s.ldu ∧ (s.beginScan).lfc = s.lfc ∧ (s.beginScan).wsu = s.wsu ∧
    (s.beginScan).scu = s.scu ∧ (s.beginScan).mdu = s.mdu ∧ (s.beginScan).rou = s.rou ∧ (s.beginScan).aac = s.aac ∧
    (s.beginScan).xpt = s.xpt ∧ (s.beginScan).port = s.port ∧ (s.beginScan).atc = s.atc ∧
    (s.beginScan).health = s.health ∧ (s.beginScan).jrw = s.jrw ∧ (s.beginScan).mem = s.mem := by
  exact ⟨rfl, rfl, rfl, rfl, rfl, rfl, rfl, rfl, rfl, rfl, rfl, rfl, rfl, rfl, rfl, rfl, rfl, rfl, rfl, rfl⟩

@[simp] theorem State.setEntry_frame (s : State) (i : Input) (e : Entry) :
    (s.setEntry i e).pending = s.pending ∧ (s.setEntry i e).uptime = s.uptime ∧
    (s.setEntry i e).freeCount = s.freeCount ∧ (s.setEntry i e).pins = s.pins ∧ (s.setEntry i e).store = s.store ∧
    (s.setEntry i e).load = s.load ∧ (s.setEntry i e).ldu = s.ldu ∧ (s.setEntry i e).lfc = s.lfc ∧
    (s.setEntry i e).wsu = s.wsu ∧ (s.setEntry i e).scu = s.scu ∧ (s.setEntry i e).mdu = s.mdu ∧
    (s.setEntry i e).rou = s.rou ∧ (s.setEntry i e).tyu = s.tyu ∧ (s.setEntry i e).aac = s.aac ∧
    (s.setEntry i e).xpt = s.xpt ∧ (s.setEntry i e).port = s.port ∧ (s.setEntry i e).atc = s.atc ∧
    (s.setEntry i e).health = s.health ∧ (s.setEntry i e).jrw = s.jrw ∧ (s.setEntry i e).mem = s.mem := by
  exact ⟨rfl, rfl, rfl, rfl, rfl, rfl, rfl, rfl, rfl, rfl, rfl, rfl, rfl, rfl, rfl, rfl, rfl, rfl, rfl, rfl⟩

@[simp] theorem State.setAf_frame (s : State) (af : Int) :
    (s.setAf af).pending = s.pending ∧ (s.setAf af).uptime = s.uptime ∧ (s.setAf af).freeCount = s.freeCount ∧
    (s.setAf af).pins = s.pins ∧ (s.setAf af).store = s.store ∧ (s.setAf af).load = s.load ∧
    (s.setAf af).sfe = s.sfe ∧ (s.setAf af).ldu = s.ldu ∧ (s.setAf af).lfc = s.lfc ∧ (s.setAf af).wsu = s.wsu ∧
    (s.setAf af).scu = s.scu ∧ (s.setAf af).mdu = s.mdu ∧ (s.setAf af).tyu = s.tyu ∧ (s.setAf af).aac = s.aac ∧
    (s.setAf af).xpt = s.xpt ∧ (s.setAf af).port = s.port ∧ (s.setAf af).atc = s.atc ∧
    (s.setAf af).health = s.health ∧ (s.setAf af).jrw = s.jrw ∧ (s.setAf af).mem = s.mem := by
  exact ⟨rfl, rfl, rfl, rfl, rfl, rfl, rfl, rfl, rfl, rfl, rfl, rfl, rfl, rfl, rfl, rfl, rfl, rfl, rfl, rfl⟩

@[simp] theorem State.rewriteSensors_frame (s : State) :
    (s.rewriteSensors).pending = s.pending ∧ (s.rewriteSensors).uptime = s.uptime ∧
    (s.rewriteSensors).freeCount = s.freeCount ∧ (s.rewriteSensors).pins = s.pins ∧
    (s.rewriteSensors).store = s.store ∧ (s.rewriteSensors).load = s.load ∧ (s.rewriteSensors).sfe = s.sfe ∧
    (s.rewriteSensors).ldu = s.ldu ∧ (s.rewriteSensors).lfc = s.lfc ∧ (s.rewriteSensors).wsu = s.wsu ∧
    (s.rewriteSensors).scu = s.scu ∧ (s.rewriteSensors).mdu = s.mdu ∧ (s.rewriteSensors).rou = s.rou ∧
    (s.rewriteSensors).tyu = s.tyu ∧ (s.rewriteSensors).aac = s.aac ∧ (s.rewriteSensors).xpt = s.xpt ∧
    (s.rewriteSensors).port = s.port ∧ (s.rewriteSensors).atc = s.atc ∧ (s.rewriteSensors).health = s.health ∧
    (s.rewriteSensors).jrw = s.jrw := by
  exact ⟨rfl, rfl, rfl, rfl, rfl, rfl, rfl, rfl, rfl, rfl, rfl, rfl, rfl, rfl, rfl, rfl, rfl, rfl, rfl, rfl⟩

@[simp] theorem State.poll_frame (s : State) :
    (s.poll).pending = s.pending ∧ (s.poll).uptime = s.uptime ∧ (s.poll).freeCount = s.freeCount ∧
    (s.poll).pins = s.pins ∧ (s.poll).store = s.store ∧ (s.poll).load = s.load ∧ (s.poll).sfe = s.sfe ∧
    (s.poll).ldu = s.ldu ∧ (s.poll).lfc = s.lfc ∧ (s.poll).wsu = s.wsu ∧ (s.poll).scu = s.scu ∧ (s.poll).mdu = s.mdu ∧
    (s.poll).rou = s.rou ∧ (s.poll).tyu = s.tyu ∧ (s.poll).aac = s.aac ∧ (s.poll).xpt = s.xpt ∧
    (s.poll).port = s.port ∧ (s.poll).health = s.health ∧ (s.poll).jrw = s.jrw ∧ (s.poll).mem = s.mem := by
  exact ⟨rfl, rfl, rfl, rfl, rfl, rfl, rfl, rfl, rfl, rfl, rfl, rfl, rfl, rfl, rfl, rfl, rfl, rfl, rfl, rfl⟩

@[simp] theorem State.writeMask_frame (s : State) (value : Half) :
    (s.writeMask value).pending = s.pending ∧ (s.writeMask value).uptime = s.uptime ∧
    (s.writeMask value).freeCount = s.freeCount ∧ (s.writeMask value).pins = s.pins ∧
    (s.writeMask value).store = s.store ∧ (s.writeMask value).load = s.load ∧ (s.writeMask value).sfe = s.sfe ∧
    (s.writeMask value).ldu = s.ldu ∧ (s.writeMask value).lfc = s.lfc ∧ (s.writeMask value).wsu = s.wsu ∧
    (s.writeMask value).scu = s.scu ∧ (s.writeMask value).mdu = s.mdu ∧ (s.writeMask value).rou = s.rou ∧
    (s.writeMask value).tyu = s.tyu ∧ (s.writeMask value).aac = s.aac ∧ (s.writeMask value).xpt = s.xpt ∧
    (s.writeMask value).port = s.port ∧ (s.writeMask value).health = s.health ∧ (s.writeMask value).jrw = s.jrw ∧
    (s.writeMask value).mem = s.mem := by
  exact ⟨rfl, rfl, rfl, rfl, rfl, rfl, rfl, rfl, rfl, rfl, rfl, rfl, rfl, rfl, rfl, rfl, rfl, rfl, rfl, rfl⟩

@[simp] theorem State.readHealth_frame (s : State) :
    (s.readHealth).pending = s.pending ∧ (s.readHealth).uptime = s.uptime ∧ (s.readHealth).freeCount = s.freeCount ∧
    (s.readHealth).pins = s.pins ∧ (s.readHealth).store = s.store ∧ (s.readHealth).load = s.load ∧
    (s.readHealth).sfe = s.sfe ∧ (s.readHealth).ldu = s.ldu ∧ (s.readHealth).lfc = s.lfc ∧
    (s.readHealth).wsu = s.wsu ∧ (s.readHealth).scu = s.scu ∧ (s.readHealth).mdu = s.mdu ∧
    (s.readHealth).rou = s.rou ∧ (s.readHealth).tyu = s.tyu ∧ (s.readHealth).aac = s.aac ∧
    (s.readHealth).xpt = s.xpt ∧ (s.readHealth).port = s.port ∧ (s.readHealth).atc = s.atc ∧
    (s.readHealth).jrw = s.jrw ∧ (s.readHealth).mem = s.mem := by
  exact ⟨rfl, rfl, rfl, rfl, rfl, rfl, rfl, rfl, rfl, rfl, rfl, rfl, rfl, rfl, rfl, rfl, rfl, rfl, rfl, rfl⟩

@[simp] theorem State.setTxn_frame (s : State) (x : Option Transaction) :
    (s.setTxn x).pending = s.pending ∧ (s.setTxn x).uptime = s.uptime ∧ (s.setTxn x).freeCount = s.freeCount ∧
    (s.setTxn x).pins = s.pins ∧ (s.setTxn x).store = s.store ∧ (s.setTxn x).load = s.load ∧
    (s.setTxn x).sfe = s.sfe ∧ (s.setTxn x).ldu = s.ldu ∧ (s.setTxn x).lfc = s.lfc ∧ (s.setTxn x).wsu = s.wsu ∧
    (s.setTxn x).scu = s.scu ∧ (s.setTxn x).mdu = s.mdu ∧ (s.setTxn x).rou = s.rou ∧ (s.setTxn x).tyu = s.tyu ∧
    (s.setTxn x).aac = s.aac ∧ (s.setTxn x).xpt = s.xpt ∧ (s.setTxn x).atc = s.atc ∧ (s.setTxn x).health = s.health ∧
    (s.setTxn x).jrw = s.jrw ∧ (s.setTxn x).mem = s.mem := by
  exact ⟨rfl, rfl, rfl, rfl, rfl, rfl, rfl, rfl, rfl, rfl, rfl, rfl, rfl, rfl, rfl, rfl, rfl, rfl, rfl, rfl⟩

@[simp] theorem State.monitorsReport_frame (s : State) :
    (s.monitorsReport).pending = s.pending ∧ (s.monitorsReport).uptime = s.uptime ∧
    (s.monitorsReport).freeCount = s.freeCount ∧ (s.monitorsReport).pins = s.pins ∧
    (s.monitorsReport).store = s.store ∧ (s.monitorsReport).load = s.load ∧ (s.monitorsReport).sfe = s.sfe ∧
    (s.monitorsReport).ldu = s.ldu ∧ (s.monitorsReport).lfc = s.lfc ∧ (s.monitorsReport).wsu = s.wsu ∧
    (s.monitorsReport).scu = s.scu ∧ (s.monitorsReport).rou = s.rou ∧ (s.monitorsReport).tyu = s.tyu ∧
    (s.monitorsReport).aac = s.aac ∧ (s.monitorsReport).xpt = s.xpt ∧ (s.monitorsReport).port = s.port ∧
    (s.monitorsReport).atc = s.atc ∧ (s.monitorsReport).health = s.health ∧ (s.monitorsReport).jrw = s.jrw ∧
    (s.monitorsReport).mem = s.mem := by
  exact ⟨rfl, rfl, rfl, rfl, rfl, rfl, rfl, rfl, rfl, rfl, rfl, rfl, rfl, rfl, rfl, rfl, rfl, rfl, rfl, rfl⟩

@[simp] theorem State.beginLoad_frame (s : State) :
    (s.beginLoad).pending = s.pending ∧ (s.beginLoad).uptime = s.uptime ∧ (s.beginLoad).freeCount = s.freeCount ∧
    (s.beginLoad).pins = s.pins ∧ (s.beginLoad).store = s.store ∧ (s.beginLoad).sfe = s.sfe ∧
    (s.beginLoad).ldu = s.ldu ∧ (s.beginLoad).lfc = s.lfc ∧ (s.beginLoad).wsu = s.wsu ∧ (s.beginLoad).scu = s.scu ∧
    (s.beginLoad).rou = s.rou ∧ (s.beginLoad).tyu = s.tyu ∧ (s.beginLoad).aac = s.aac ∧ (s.beginLoad).xpt = s.xpt ∧
    (s.beginLoad).port = s.port ∧ (s.beginLoad).atc = s.atc ∧ (s.beginLoad).health = s.health ∧
    (s.beginLoad).jrw = s.jrw := by
  exact ⟨rfl, rfl, rfl, rfl, rfl, rfl, rfl, rfl, rfl, rfl, rfl, rfl, rfl, rfl, rfl, rfl, rfl, rfl⟩

@[simp] theorem State.loadRead_frame (s : State) :
    (s.loadRead).pending = s.pending ∧ (s.loadRead).uptime = s.uptime ∧ (s.loadRead).freeCount = s.freeCount ∧
    (s.loadRead).pins = s.pins ∧ (s.loadRead).store = s.store ∧ (s.loadRead).sfe = s.sfe ∧ (s.loadRead).ldu = s.ldu ∧
    (s.loadRead).lfc = s.lfc ∧ (s.loadRead).wsu = s.wsu ∧ (s.loadRead).scu = s.scu ∧ (s.loadRead).mdu = s.mdu ∧
    (s.loadRead).rou = s.rou ∧ (s.loadRead).tyu = s.tyu ∧ (s.loadRead).aac = s.aac ∧ (s.loadRead).port = s.port ∧
    (s.loadRead).atc = s.atc ∧ (s.loadRead).health = s.health ∧ (s.loadRead).jrw = s.jrw ∧ (s.loadRead).mem = s.mem := by
  exact ⟨rfl, rfl, rfl, rfl, rfl, rfl, rfl, rfl, rfl, rfl, rfl, rfl, rfl, rfl, rfl, rfl, rfl, rfl, rfl⟩

@[simp] theorem State.startPeriods_frame (s : State) :
    (s.startPeriods).pending = s.pending ∧ (s.startPeriods).uptime = s.uptime ∧
    (s.startPeriods).freeCount = s.freeCount ∧ (s.startPeriods).pins = s.pins ∧ (s.startPeriods).store = s.store ∧
    (s.startPeriods).load = s.load ∧ (s.startPeriods).lfc = s.lfc ∧ (s.startPeriods).scu = s.scu ∧
    (s.startPeriods).aac = s.aac ∧ (s.startPeriods).xpt = s.xpt ∧ (s.startPeriods).port = s.port ∧
    (s.startPeriods).atc = s.atc ∧ (s.startPeriods).health = s.health ∧ (s.startPeriods).jrw = s.jrw ∧
    (s.startPeriods).mem = s.mem := by
  exact ⟨rfl, rfl, rfl, rfl, rfl, rfl, rfl, rfl, rfl, rfl, rfl, rfl, rfl, rfl, rfl⟩

@[simp] theorem State.copyTrims_frame (s : State) :
    (s.copyTrims).pending = s.pending ∧ (s.copyTrims).uptime = s.uptime ∧ (s.copyTrims).freeCount = s.freeCount ∧
    (s.copyTrims).pins = s.pins ∧ (s.copyTrims).store = s.store ∧ (s.copyTrims).load = s.load ∧
    (s.copyTrims).ldu = s.ldu ∧ (s.copyTrims).lfc = s.lfc ∧ (s.copyTrims).wsu = s.wsu ∧ (s.copyTrims).scu = s.scu ∧
    (s.copyTrims).mdu = s.mdu ∧ (s.copyTrims).rou = s.rou ∧ (s.copyTrims).tyu = s.tyu ∧ (s.copyTrims).aac = s.aac ∧
    (s.copyTrims).xpt = s.xpt ∧ (s.copyTrims).port = s.port ∧ (s.copyTrims).atc = s.atc ∧
    (s.copyTrims).health = s.health ∧ (s.copyTrims).jrw = s.jrw ∧ (s.copyTrims).mem = s.mem := by
  exact ⟨rfl, rfl, rfl, rfl, rfl, rfl, rfl, rfl, rfl, rfl, rfl, rfl, rfl, rfl, rfl, rfl, rfl, rfl, rfl, rfl⟩

@[simp] theorem State.setDevice_frame (s : State) (d : Device) :
    (s.setDevice d).pending = s.pending ∧ (s.setDevice d).uptime = s.uptime ∧
    (s.setDevice d).freeCount = s.freeCount ∧ (s.setDevice d).pins = s.pins ∧ (s.setDevice d).store = s.store ∧
    (s.setDevice d).load = s.load ∧ (s.setDevice d).sfe = s.sfe ∧ (s.setDevice d).ldu = s.ldu ∧
    (s.setDevice d).lfc = s.lfc ∧ (s.setDevice d).wsu = s.wsu ∧ (s.setDevice d).scu = s.scu ∧
    (s.setDevice d).mdu = s.mdu ∧ (s.setDevice d).rou = s.rou ∧ (s.setDevice d).tyu = s.tyu ∧
    (s.setDevice d).aac = s.aac ∧ (s.setDevice d).port = s.port ∧ (s.setDevice d).atc = s.atc ∧
    (s.setDevice d).health = s.health ∧ (s.setDevice d).jrw = s.jrw ∧ (s.setDevice d).mem = s.mem := by
  exact ⟨rfl, rfl, rfl, rfl, rfl, rfl, rfl, rfl, rfl, rfl, rfl, rfl, rfl, rfl, rfl, rfl, rfl, rfl, rfl, rfl⟩

end Sys2Proof.Machine
end

