-- ==== Sys2Proof/Laws/Attention.lean ====
section
/-! SUPPORT. Laws/Attention.lean: the attention operations in the manual's own terms: which level a poll selects, what
each operation does to the three sets, and that nATTN always stands as R171 says. -/

namespace Sys2Proof.Machine

/-- The law of nATTN on the attention record alone. -/
def Atc.law (a : Atc) : Prop := a.nattn = true ↔ a.someLevelWaits

/-- The law of the level sources on the attention record alone. -/
def Atc.sourceLaw (a : Atc) : Prop :=
  (a.inService.journal = false → a.pending.journal = a.journal) ∧
  (a.inService.supply = false → a.pending.supply = a.supply) ∧
  (a.inService.demand = false → a.pending.demand = a.demand)

/-- The edge sources of Table 11.1. -/
@[simp] def Level.isEdge : Level → Bool
  | .fault | .roll | .slip | .tyre | .take => true
  | .journal | .supply | .demand => false

/-- What a poll finds in levels listed in priority order. -/
theorem Atc.pick_isSome (a : Atc) : ∀ ls : List Level, ls.Pairwise (fun x y => x.index < y.index) →
    ((a.pick ls).isSome = true ↔ ∃ l ∈ ls, a.pending.get l = true ∧ a.mask.get l = false ∧
      ∀ k ∈ ls, a.inService.get k = true → l.index < k.index) := by
  intro ls
  induction ls with
  | nil => intro _; simp [Atc.pick]
  | cons x xs ih =>
    intro hp
    obtain ⟨hx, hxs⟩ := List.pairwise_cons.1 hp
    simp only [Atc.pick]
    split
    · rename_i hin
      simp only [Option.isSome_none, Bool.false_eq_true, false_iff]
      rintro ⟨l, hl, _, _, h⟩
      have h1 := h x (by simp) hin
      rcases List.mem_cons.1 hl with rfl | hl
      · omega
      · have := hx l hl; omega
    · rename_i hin
      split
      · rename_i hw
        simp only [Bool.and_eq_true, Bool.not_eq_eq_eq_not, Bool.not_true] at hw
        simp only [Option.isSome_some, true_iff]
        refine ⟨x, by simp, hw.1, hw.2, fun k hk hik => ?_⟩
        rcases List.mem_cons.1 hk with rfl | hk
        · exact absurd hik hin
        · exact hx k hk
      · rename_i hw
        rw [ih hxs]
        constructor
        · rintro ⟨l, hl, h1, h2, h3⟩
          refine ⟨l, by simp [hl], h1, h2, fun k hk hik => ?_⟩
          rcases List.mem_cons.1 hk with rfl | hk
          · exact absurd hik hin
          · exact h3 k hk hik
        · rintro ⟨l, hl, h1, h2, h3⟩
          rcases List.mem_cons.1 hl with rfl | hl
          · exact absurd (by simp [h1, h2]) hw
          · exact ⟨l, hl, h1, h2, fun k hk hik => h3 k (by simp [hk]) hik⟩

theorem Level.mem_all (l : Level) : l ∈ Level.all := by cases l <;> decide

/-- A poll selects a level exactly when some level waits. -/
theorem Atc.selected_isSome (a : Atc) : a.selected.isSome = true ↔ a.someLevelWaits := by
  rw [Atc.selected, Atc.pick_isSome a Level.all (by decide)]
  constructor
  · rintro ⟨l, _, h1, h2, h3⟩
    exact ⟨l, h1, h2, fun k hk => h3 k k.mem_all hk⟩
  · rintro ⟨l, h1, h2, h3⟩
    exact ⟨l, l.mem_all, h1, h2, fun k _ hk => h3 k hk⟩

/-- Every judgement leaves nATTN as R171 says. -/
theorem Atc.law_judged (a : Atc) : a.judged.law := Atc.selected_isSome a

theorem Atc.law_raise (a : Atc) (l : Level) : (a.raise l).law := Atc.law_judged _

theorem Atc.law_leave (a : Atc) (l : Level) : (a.leave l).law := Atc.law_judged _

theorem Atc.law_writeMask (a : Atc) (value : Half) : (a.writeMask value).law := Atc.law_judged _

/-- The record of a condition touches none of the three sets. -/
theorem Atc.law_holdCondition {a : Atc} (h : a.law) (l : Level) (c : Bool) : (a.holdCondition l c).law := by
  cases l <;> exact h

theorem Atc.law_follow {a : Atc} (h : a.law) (l : Level) (c : Bool) : (a.follow l c).law := by
  unfold Atc.follow
  split
  · exact h
  · split
    · exact Atc.law_holdCondition h l c
    · exact Atc.law_judged _

theorem Atc.law_poll {a : Atc} (h : a.law) : a.poll.law := by
  unfold Atc.poll
  split
  · exact h
  · exact Atc.law_judged _

theorem Atc.law_rejudge {a : Atc} (h : a.law) (l : Level) : (a.rejudge l).law := by
  unfold Atc.rejudge
  split
  · exact Atc.law_judged _
  · exact h

/-! ### The level sources -/

theorem Atc.sourceLaw_raise {a : Atc} (h : a.sourceLaw) (l : Level) (hl : l.isEdge = true) : (a.raise l).sourceLaw := by
  cases l <;> first | exact h | simp at hl

theorem Atc.sourceLaw_follow {a : Atc} (h : a.sourceLaw) (l : Level) (c : Bool) (hl : l.isEdge = false) :
    (a.follow l c).sourceLaw := by
  unfold Atc.follow
  obtain ⟨h1, h2, h3⟩ := h
  split
  · exact ⟨h1, h2, h3⟩
  · split <;> rename_i hs <;>
      cases l <;> simp_all [Atc.sourceLaw, Atc.holdCondition, PerLevel.get, PerLevel.set, Atc.judged]

/-- A poll moves a level out of the pending set as it enters service. -/
theorem Atc.sourceLaw_poll {a : Atc} (h : a.sourceLaw) : a.poll.sourceLaw := by
  obtain ⟨h1, h2, h3⟩ := h
  unfold Atc.poll
  split
  · exact ⟨h1, h2, h3⟩
  · rename_i l _
    cases l <;> simp_all [Atc.sourceLaw, PerLevel.set, Atc.judged]

/-- The judgement of a condition mends its level; the other level sources must stand as they should before it. -/
theorem Atc.sourceLaw_rejudge {a : Atc} (l : Level)
    (h1 : l ≠ .journal → a.inService.journal = false → a.pending.journal = a.journal)
    (h2 : l ≠ .supply → a.inService.supply = false → a.pending.supply = a.supply)
    (h3 : l ≠ .demand → a.inService.demand = false → a.pending.demand = a.demand) : (a.rejudge l).sourceLaw := by
  cases l <;> simp_all [Atc.rejudge, Atc.condition, Atc.sourceLaw, PerLevel.set, Atc.judged]

/-! ### What the operations leave of the three sets -/

@[simp] theorem Atc.judged_pending (a : Atc) : a.judged.pending = a.pending := rfl

@[simp] theorem Atc.judged_mask (a : Atc) : a.judged.mask = a.mask := rfl

@[simp] theorem Atc.judged_inService (a : Atc) : a.judged.inService = a.inService := rfl

@[simp] theorem Atc.raise_pending (a : Atc) (l : Level) : (a.raise l).pending = a.pending.set l true := rfl

@[simp] theorem Atc.raise_mask (a : Atc) (l : Level) : (a.raise l).mask = a.mask := rfl

@[simp] theorem Atc.raise_inService (a : Atc) (l : Level) : (a.raise l).inService = a.inService := rfl

@[simp] theorem Atc.raise_demand (a : Atc) (l : Level) : (a.raise l).demand = a.demand := rfl

@[simp] theorem Atc.raise_supply (a : Atc) (l : Level) : (a.raise l).supply = a.supply := rfl

@[simp] theorem Atc.follow_mask (a : Atc) (l : Level) (c : Bool) : (a.follow l c).mask = a.mask := by
  unfold Atc.follow
  cases l <;> (repeat' split) <;> rfl

@[simp] theorem Atc.follow_inService (a : Atc) (l : Level) (c : Bool) : (a.follow l c).inService = a.inService := by
  unfold Atc.follow
  cases l <;> (repeat' split) <;> rfl

/-- A level source touches its own level of the pending set alone. -/
theorem Atc.follow_pending (a : Atc) (l k : Level) (c : Bool) (h : k ≠ l) :
    (a.follow l c).pending.get k = a.pending.get k := by
  unfold Atc.follow
  cases l <;> (repeat' split) <;> first | rfl | (cases k <;> first | rfl | exact absurd rfl h)

/-- The condition of a level source stands as its owner last held it. -/
theorem Atc.demand_follow (a : Atc) (c : Bool) : (a.follow .demand c).demand = c := by
  unfold Atc.follow
  split
  · rename_i h; exact Option.some.inj h
  · split <;> rfl

theorem Atc.supply_follow (a : Atc) (c : Bool) : (a.follow .supply c).supply = c := by
  unfold Atc.follow
  split
  · rename_i h; exact Option.some.inj h
  · split <;> rfl

theorem Atc.journal_follow (a : Atc) (c : Bool) : (a.follow .journal c).journal = c := by
  unfold Atc.follow
  split
  · rename_i h; exact Option.some.inj h
  · split <;> rfl

/-- The journal's condition does not touch the other two. -/
theorem Atc.follow_journal_rest (a : Atc) (c : Bool) :
    (a.follow .journal c).demand = a.demand ∧ (a.follow .journal c).supply = a.supply := by
  unfold Atc.follow
  (repeat' split) <;> exact ⟨rfl, rfl⟩

end Sys2Proof.Machine
end

