-- ==== Sys2Proof/Laws/Frames.lean ====
section
/-! SUPPORT. Laws/Frames.lean: for each operation of a block, the components of State that it leaves alone. -/

namespace Sys2Proof.Machine

/-! ### What the shared operations over exchange memory, attention, the journal, takes and the air account leave alone -/

@[simp] theorem State.judgeRoom_frame (s : State) :
    (s.judgeRoom).pending = s.pending ∧ (s.judgeRoom).uptime = s.uptime ∧ (s.judgeRoom).freeCount = s.freeCount ∧
    (s.judgeRoom).pins = s.pins ∧ (s.judgeRoom).store = s.store ∧ (s.judgeRoom).load = s.load ∧
    (s.judgeRoom).sfe = s.sfe ∧ (s.judgeRoom).ldu = s.ldu ∧ (s.judgeRoom).lfc = s.lfc ∧ (s.judgeRoom).wsu = s.wsu ∧
    (s.judgeRoom).scu = s.scu ∧ (s.judgeRoom).mdu = s.mdu ∧ (s.judgeRoom).rou = s.rou ∧ (s.judgeRoom).tyu = s.tyu ∧
    (s.judgeRoom).aac = s.aac ∧ (s.judgeRoom).xpt = s.xpt ∧ (s.judgeRoom).port = s.port ∧
    (s.judgeRoom).health = s.health := by
  generalize h : s.judgeRoom = t
  unfold State.judgeRoom at h
  try dsimp only at h
  (repeat' split at h) <;> (subst h; simp)

@[simp] theorem State.writeRecord_frame (s : State) (r : Record) :
    (s.writeRecord r).pending = s.pending ∧ (s.writeRecord r).uptime = s.uptime ∧
    (s.writeRecord r).freeCount = s.freeCount ∧ (s.writeRecord r).pins = s.pins ∧ (s.writeRecord r).store = s.store ∧
    (s.writeRecord r).load = s.load ∧ (s.writeRecord r).sfe = s.sfe ∧ (s.writeRecord r).ldu = s.ldu ∧
    (s.writeRecord r).lfc = s.lfc ∧ (s.writeRecord r).wsu = s.wsu ∧ (s.writeRecord r).scu = s.scu ∧
    (s.writeRecord r).mdu = s.mdu ∧ (s.writeRecord r).rou = s.rou ∧ (s.writeRecord r).tyu = s.tyu ∧
    (s.writeRecord r).aac = s.aac ∧ (s.writeRecord r).xpt = s.xpt ∧ (s.writeRecord r).port = s.port ∧
    (s.writeRecord r).health = s.health := by
  generalize h : s.writeRecord r = t
  unfold State.writeRecord at h
  try dsimp only at h
  subst h
  simp

@[simp] theorem State.dropRecord_frame (s : State) :
    (s.dropRecord).pending = s.pending ∧ (s.dropRecord).uptime = s.uptime ∧ (s.dropRecord).freeCount = s.freeCount ∧
    (s.dropRecord).pins = s.pins ∧ (s.dropRecord).store = s.store ∧ (s.dropRecord).load = s.load ∧
    (s.dropRecord).sfe = s.sfe ∧ (s.dropRecord).ldu = s.ldu ∧ (s.dropRecord).lfc = s.lfc ∧
    (s.dropRecord).wsu = s.wsu ∧ (s.dropRecord).scu = s.scu ∧ (s.dropRecord).mdu = s.mdu ∧
    (s.dropRecord).rou = s.rou ∧ (s.dropRecord).tyu = s.tyu ∧ (s.dropRecord).aac = s.aac ∧
    (s.dropRecord).xpt = s.xpt ∧ (s.dropRecord).port = s.port ∧ (s.dropRecord).atc = s.atc := by
  generalize h : s.dropRecord = t
  unfold State.dropRecord at h
  try dsimp only at h
  subst h
  simp

@[simp] theorem State.placeRecord_frame (s : State) (r : Record) :
    (s.placeRecord r).pending = s.pending ∧ (s.placeRecord r).uptime = s.uptime ∧
    (s.placeRecord r).freeCount = s.freeCount ∧ (s.placeRecord r).pins = s.pins ∧ (s.placeRecord r).store = s.store ∧
    (s.placeRecord r).load = s.load ∧ (s.placeRecord r).sfe = s.sfe ∧ (s.placeRecord r).ldu = s.ldu ∧
    (s.placeRecord r).lfc = s.lfc ∧ (s.placeRecord r).wsu = s.wsu ∧ (s.placeRecord r).scu = s.scu ∧
    (s.placeRecord r).mdu = s.mdu ∧ (s.placeRecord r).rou = s.rou ∧ (s.placeRecord r).tyu = s.tyu ∧
    (s.placeRecord r).aac = s.aac ∧ (s.placeRecord r).xpt = s.xpt ∧ (s.placeRecord r).port = s.port := by
  generalize h : s.placeRecord r = t
  unfold State.placeRecord at h
  try dsimp only at h
  (repeat' split at h) <;> (subst h; simp)

@[simp] theorem State.hand_frame (s : State) (r : Record) :
    (s.hand r).pending = s.pending ∧ (s.hand r).uptime = s.uptime ∧ (s.hand r).freeCount = s.freeCount ∧
    (s.hand r).pins = s.pins ∧ (s.hand r).store = s.store ∧ (s.hand r).load = s.load ∧ (s.hand r).sfe = s.sfe ∧
    (s.hand r).ldu = s.ldu ∧ (s.hand r).lfc = s.lfc ∧ (s.hand r).wsu = s.wsu ∧ (s.hand r).scu = s.scu ∧
    (s.hand r).mdu = s.mdu ∧ (s.hand r).rou = s.rou ∧ (s.hand r).tyu = s.tyu ∧ (s.hand r).aac = s.aac ∧
    (s.hand r).xpt = s.xpt ∧ (s.hand r).port = s.port := by
  generalize h : s.hand r = t
  unfold State.hand at h
  try dsimp only at h
  (repeat' split at h) <;> (subst h; simp)

@[simp] theorem State.takeOutcome_frame (s : State) (r : Request) (o : Outcome) :
    (s.takeOutcome r o).pending = s.pending ∧ (s.takeOutcome r o).uptime = s.uptime ∧
    (s.takeOutcome r o).freeCount = s.freeCount ∧ (s.takeOutcome r o).pins = s.pins ∧
    (s.takeOutcome r o).store = s.store ∧ (s.takeOutcome r o).load = s.load ∧ (s.takeOutcome r o).sfe = s.sfe ∧
    (s.takeOutcome r o).ldu = s.ldu ∧ (s.takeOutcome r o).lfc = s.lfc ∧ (s.takeOutcome r o).wsu = s.wsu ∧
    (s.takeOutcome r o).scu = s.scu ∧ (s.takeOutcome r o).mdu = s.mdu ∧ (s.takeOutcome r o).rou = s.rou ∧
    (s.takeOutcome r o).tyu = s.tyu ∧ (s.takeOutcome r o).aac = s.aac ∧ (s.takeOutcome r o).port = s.port := by
  generalize h : s.takeOutcome r o = t
  unfold State.takeOutcome at h
  try dsimp only at h
  subst h
  simp

@[simp] theorem State.reportDevice_frame (s : State) (d : Device) :
    (s.reportDevice d).pending = s.pending ∧ (s.reportDevice d).uptime = s.uptime ∧
    (s.reportDevice d).freeCount = s.freeCount ∧ (s.reportDevice d).pins = s.pins ∧
    (s.reportDevice d).store = s.store ∧ (s.reportDevice d).load = s.load ∧ (s.reportDevice d).sfe = s.sfe ∧
    (s.reportDevice d).ldu = s.ldu ∧ (s.reportDevice d).lfc = s.lfc ∧ (s.reportDevice d).wsu = s.wsu ∧
    (s.reportDevice d).scu = s.scu ∧ (s.reportDevice d).mdu = s.mdu ∧ (s.reportDevice d).rou = s.rou ∧
    (s.reportDevice d).tyu = s.tyu ∧ (s.reportDevice d).aac = s.aac ∧ (s.reportDevice d).xpt = s.xpt ∧
    (s.reportDevice d).port = s.port := by
  generalize h : s.reportDevice d = t
  unfold State.reportDevice at h
  try dsimp only at h
  subst h
  simp

@[simp] theorem State.answerRequest_frame (s : State) (n : AllowanceName) :
    (s.answerRequest n).pending = s.pending ∧ (s.answerRequest n).uptime = s.uptime ∧
    (s.answerRequest n).freeCount = s.freeCount ∧ (s.answerRequest n).pins = s.pins ∧
    (s.answerRequest n).store = s.store ∧ (s.answerRequest n).load = s.load ∧ (s.answerRequest n).sfe = s.sfe ∧
    (s.answerRequest n).ldu = s.ldu ∧ (s.answerRequest n).lfc = s.lfc ∧ (s.answerRequest n).wsu = s.wsu ∧
    (s.answerRequest n).scu = s.scu ∧ (s.answerRequest n).mdu = s.mdu ∧ (s.answerRequest n).tyu = s.tyu ∧
    (s.answerRequest n).xpt = s.xpt ∧ (s.answerRequest n).port = s.port := by
  generalize h : s.answerRequest n = t
  unfold State.answerRequest at h
  try dsimp only at h
  (repeat' split at h) <;> (subst h; simp)

@[simp] theorem State.adoptAirGroup_frame (s : State) (g : AirGroup) :
    (s.adoptAirGroup g).pending = s.pending ∧ (s.adoptAirGroup g).uptime = s.uptime ∧
    (s.adoptAirGroup g).freeCount = s.freeCount ∧ (s.adoptAirGroup g).pins = s.pins ∧
    (s.adoptAirGroup g).store = s.store ∧ (s.adoptAirGroup g).load = s.load ∧ (s.adoptAirGroup g).sfe = s.sfe ∧
    (s.adoptAirGroup g).ldu = s.ldu ∧ (s.adoptAirGroup g).lfc = s.lfc ∧ (s.adoptAirGroup g).wsu = s.wsu ∧
    (s.adoptAirGroup g).scu = s.scu ∧ (s.adoptAirGroup g).mdu = s.mdu ∧ (s.adoptAirGroup g).tyu = s.tyu ∧
    (s.adoptAirGroup g).xpt = s.xpt ∧ (s.adoptAirGroup g).port = s.port := by
  generalize h : s.adoptAirGroup g = t
  unfold State.adoptAirGroup at h
  try dsimp only at h
  (repeat' split at h) <;> (subst h; simp)

@[simp] theorem State.adoptAir_frame (s : State) :
    (s.adoptAir).pending = s.pending ∧ (s.adoptAir).uptime = s.uptime ∧ (s.adoptAir).freeCount = s.freeCount ∧
    (s.adoptAir).pins = s.pins ∧ (s.adoptAir).store = s.store ∧ (s.adoptAir).load = s.load ∧
    (s.adoptAir).sfe = s.sfe ∧ (s.adoptAir).ldu = s.ldu ∧ (s.adoptAir).lfc = s.lfc ∧ (s.adoptAir).wsu = s.wsu ∧
    (s.adoptAir).scu = s.scu ∧ (s.adoptAir).mdu = s.mdu ∧ (s.adoptAir).tyu = s.tyu ∧ (s.adoptAir).port = s.port := by
  generalize h : s.adoptAir = t
  unfold State.adoptAir at h
  try dsimp only at h
  (repeat' split at h) <;> (subst h; simp)

@[simp] theorem State.judgeCritical_frame (s : State) :
    (s.judgeCritical).pending = s.pending ∧ (s.judgeCritical).uptime = s.uptime ∧
    (s.judgeCritical).freeCount = s.freeCount ∧ (s.judgeCritical).pins = s.pins ∧ (s.judgeCritical).store = s.store ∧
    (s.judgeCritical).load = s.load ∧ (s.judgeCritical).sfe = s.sfe ∧ (s.judgeCritical).ldu = s.ldu ∧
    (s.judgeCritical).lfc = s.lfc ∧ (s.judgeCritical).wsu = s.wsu ∧ (s.judgeCritical).scu = s.scu ∧
    (s.judgeCritical).mdu = s.mdu ∧ (s.judgeCritical).rou = s.rou ∧ (s.judgeCritical).tyu = s.tyu ∧
    (s.judgeCritical).xpt = s.xpt ∧ (s.judgeCritical).port = s.port := by
  generalize h : s.judgeCritical = t
  unfold State.judgeCritical at h
  try dsimp only at h
  (repeat' split at h) <;> (subst h; simp)

@[simp] theorem State.reloadRecord_frame (s : State) (x : Int) (n : AllowanceName) :
    (s.reloadRecord x n).pending = s.pending ∧ (s.reloadRecord x n).uptime = s.uptime ∧
    (s.reloadRecord x n).freeCount = s.freeCount ∧ (s.reloadRecord x n).pins = s.pins ∧
    (s.reloadRecord x n).store = s.store ∧ (s.reloadRecord x n).load = s.load ∧ (s.reloadRecord x n).sfe = s.sfe ∧
    (s.reloadRecord x n).ldu = s.ldu ∧ (s.reloadRecord x n).lfc = s.lfc ∧ (s.reloadRecord x n).wsu = s.wsu ∧
    (s.reloadRecord x n).scu = s.scu ∧ (s.reloadRecord x n).mdu = s.mdu ∧ (s.reloadRecord x n).rou = s.rou ∧
    (s.reloadRecord x n).tyu = s.tyu ∧ (s.reloadRecord x n).aac = s.aac ∧ (s.reloadRecord x n).xpt = s.xpt ∧
    (s.reloadRecord x n).port = s.port := by
  generalize h : s.reloadRecord x n = t
  unfold State.reloadRecord at h
  try dsimp only at h
  (repeat' split at h) <;> (subst h; simp)

@[simp] theorem State.judgeReload_frame (s : State) :
    (s.judgeReload).pending = s.pending ∧ (s.judgeReload).uptime = s.uptime ∧
    (s.judgeReload).freeCount = s.freeCount ∧ (s.judgeReload).pins = s.pins ∧ (s.judgeReload).store = s.store ∧
    (s.judgeReload).load = s.load ∧ (s.judgeReload).sfe = s.sfe ∧ (s.judgeReload).ldu = s.ldu ∧
    (s.judgeReload).lfc = s.lfc ∧ (s.judgeReload).wsu = s.wsu ∧ (s.judgeReload).scu = s.scu ∧
    (s.judgeReload).mdu = s.mdu ∧ (s.judgeReload).tyu = s.tyu ∧ (s.judgeReload).xpt = s.xpt ∧
    (s.judgeReload).port = s.port := by
  generalize h : s.judgeReload = t
  unfold State.judgeReload at h
  try dsimp only at h
  (repeat' split at h) <;> (subst h; simp)

@[simp] theorem State.reservoirSample_frame (s : State) :
    (s.reservoirSample).pending = s.pending ∧ (s.reservoirSample).uptime = s.uptime ∧
    (s.reservoirSample).freeCount = s.freeCount ∧ (s.reservoirSample).pins = s.pins ∧
    (s.reservoirSample).store = s.store ∧ (s.reservoirSample).load = s.load ∧ (s.reservoirSample).sfe = s.sfe ∧
    (s.reservoirSample).ldu = s.ldu ∧ (s.reservoirSample).lfc = s.lfc ∧ (s.reservoirSample).wsu = s.wsu ∧
    (s.reservoirSample).scu = s.scu ∧ (s.reservoirSample).mdu = s.mdu ∧ (s.reservoirSample).tyu = s.tyu ∧
    (s.reservoirSample).port = s.port := by
  generalize h : s.reservoirSample = t
  unfold State.reservoirSample at h
  try dsimp only at h
  (repeat' split at h) <;> (subst h; simp)

@[simp] theorem State.closeEpisode_frame (s : State) (c : Channel) (r : EndReason) :
    (s.closeEpisode c r).pending = s.pending ∧ (s.closeEpisode c r).uptime = s.uptime ∧
    (s.closeEpisode c r).freeCount = s.freeCount ∧ (s.closeEpisode c r).pins = s.pins ∧
    (s.closeEpisode c r).store = s.store ∧ (s.closeEpisode c r).load = s.load ∧ (s.closeEpisode c r).sfe = s.sfe ∧
    (s.closeEpisode c r).ldu = s.ldu ∧ (s.closeEpisode c r).lfc = s.lfc ∧ (s.closeEpisode c r).wsu = s.wsu ∧
    (s.closeEpisode c r).mdu = s.mdu ∧ (s.closeEpisode c r).rou = s.rou ∧ (s.closeEpisode c r).tyu = s.tyu ∧
    (s.closeEpisode c r).aac = s.aac ∧ (s.closeEpisode c r).xpt = s.xpt ∧ (s.closeEpisode c r).port = s.port := by
  generalize h : s.closeEpisode c r = t
  unfold State.closeEpisode at h
  try dsimp only at h
  subst h
  simp

@[simp] theorem State.slipOff_frame (s : State) (c : Channel) (r : EndReason) :
    (s.slipOff c r).pending = s.pending ∧ (s.slipOff c r).uptime = s.uptime ∧
    (s.slipOff c r).freeCount = s.freeCount ∧ (s.slipOff c r).pins = s.pins ∧ (s.slipOff c r).store = s.store ∧
    (s.slipOff c r).load = s.load ∧ (s.slipOff c r).sfe = s.sfe ∧ (s.slipOff c r).ldu = s.ldu ∧
    (s.slipOff c r).lfc = s.lfc ∧ (s.slipOff c r).wsu = s.wsu ∧ (s.slipOff c r).mdu = s.mdu ∧
    (s.slipOff c r).rou = s.rou ∧ (s.slipOff c r).tyu = s.tyu ∧ (s.slipOff c r).aac = s.aac ∧
    (s.slipOff c r).xpt = s.xpt ∧ (s.slipOff c r).port = s.port := by
  generalize h : s.slipOff c r = t
  unfold State.slipOff at h
  try dsimp only at h
  (repeat' split at h) <;> (subst h; simp)

/-! ### What the operations of the modulator drive and the close of slip episodes leave alone -/

theorem foldSlipOff_frame : ∀ (l : List Channel) (s : State),
    (l.foldl (fun u c => u.slipOff c .backup) s).pending = s.pending ∧
    (l.foldl (fun u c => u.slipOff c .backup) s).uptime = s.uptime ∧
    (l.foldl (fun u c => u.slipOff c .backup) s).freeCount = s.freeCount ∧
    (l.foldl (fun u c => u.slipOff c .backup) s).pins = s.pins ∧
    (l.foldl (fun u c => u.slipOff c .backup) s).store = s.store ∧
    (l.foldl (fun u c => u.slipOff c .backup) s).load = s.load ∧
    (l.foldl (fun u c => u.slipOff c .backup) s).sfe = s.sfe ∧
    (l.foldl (fun u c => u.slipOff c .backup) s).ldu = s.ldu ∧
    (l.foldl (fun u c => u.slipOff c .backup) s).lfc = s.lfc ∧
    (l.foldl (fun u c => u.slipOff c .backup) s).wsu = s.wsu ∧
    (l.foldl (fun u c => u.slipOff c .backup) s).mdu = s.mdu ∧
    (l.foldl (fun u c => u.slipOff c .backup) s).rou = s.rou ∧
    (l.foldl (fun u c => u.slipOff c .backup) s).tyu = s.tyu ∧
    (l.foldl (fun u c => u.slipOff c .backup) s).aac = s.aac ∧
    (l.foldl (fun u c => u.slipOff c .backup) s).xpt = s.xpt ∧
    (l.foldl (fun u c => u.slipOff c .backup) s).port = s.port := by
  intro l
  induction l with
  | nil => intro s; simp
  | cons c xs ih =>
    intro s
    have h := ih (s.slipOff c .backup)
    simp_all

@[simp] theorem State.backupEntry_frame (s : State) (l : List Channel) :
    (s.backupEntry l).pending = s.pending ∧ (s.backupEntry l).uptime = s.uptime ∧
    (s.backupEntry l).freeCount = s.freeCount ∧ (s.backupEntry l).pins = s.pins ∧ (s.backupEntry l).store = s.store ∧
    (s.backupEntry l).load = s.load ∧ (s.backupEntry l).sfe = s.sfe ∧ (s.backupEntry l).ldu = s.ldu ∧
    (s.backupEntry l).lfc = s.lfc ∧ (s.backupEntry l).wsu = s.wsu ∧ (s.backupEntry l).mdu = s.mdu ∧
    (s.backupEntry l).rou = s.rou ∧ (s.backupEntry l).tyu = s.tyu ∧ (s.backupEntry l).aac = s.aac ∧
    (s.backupEntry l).xpt = s.xpt ∧ (s.backupEntry l).port = s.port := by
  have h2 := foldSlipOff_frame l s
  generalize h : s.backupEntry l = t
  unfold State.backupEntry at h
  dsimp only at h
  split at h <;> (subst h; simp_all)

theorem foldBackup_frame : ∀ (l : List Channel) (s : State),
    (l.foldl State.chanToBackup s).pending = s.pending ∧ (l.foldl State.chanToBackup s).uptime = s.uptime ∧
    (l.foldl State.chanToBackup s).freeCount = s.freeCount ∧ (l.foldl State.chanToBackup s).pins = s.pins ∧
    (l.foldl State.chanToBackup s).store = s.store ∧ (l.foldl State.chanToBackup s).load = s.load ∧
    (l.foldl State.chanToBackup s).sfe = s.sfe ∧ (l.foldl State.chanToBackup s).ldu = s.ldu ∧
    (l.foldl State.chanToBackup s).lfc = s.lfc ∧ (l.foldl State.chanToBackup s).wsu = s.wsu ∧
    (l.foldl State.chanToBackup s).scu = s.scu ∧ (l.foldl State.chanToBackup s).rou = s.rou ∧
    (l.foldl State.chanToBackup s).tyu = s.tyu ∧ (l.foldl State.chanToBackup s).aac = s.aac ∧
    (l.foldl State.chanToBackup s).xpt = s.xpt ∧ (l.foldl State.chanToBackup s).port = s.port ∧
    (l.foldl State.chanToBackup s).atc = s.atc ∧ (l.foldl State.chanToBackup s).health = s.health ∧
    (l.foldl State.chanToBackup s).jrw = s.jrw ∧ (l.foldl State.chanToBackup s).mem = s.mem := by
  intro l
  induction l with
  | nil => intro s; simp
  | cons c xs ih =>
    intro s
    have h := ih (s.chanToBackup c)
    simp_all

@[simp] theorem State.enterBackup_frame (s : State) (l : List Channel) :
    (s.enterBackup l).pending = s.pending ∧ (s.enterBackup l).uptime = s.uptime ∧
    (s.enterBackup l).freeCount = s.freeCount ∧ (s.enterBackup l).pins = s.pins ∧ (s.enterBackup l).store = s.store ∧
    (s.enterBackup l).load = s.load ∧ (s.enterBackup l).sfe = s.sfe ∧ (s.enterBackup l).ldu = s.ldu ∧
    (s.enterBackup l).lfc = s.lfc ∧ (s.enterBackup l).wsu = s.wsu ∧ (s.enterBackup l).rou = s.rou ∧
    (s.enterBackup l).tyu = s.tyu ∧ (s.enterBackup l).aac = s.aac ∧ (s.enterBackup l).xpt = s.xpt ∧
    (s.enterBackup l).port = s.port := by
  unfold State.enterBackup
  have h := foldBackup_frame l s
  simp_all

@[simp] theorem State.faultEffects_frame (s : State) (c : Channel) (k : Cause) (m : Mode) :
    (s.faultEffects c k m).pending = s.pending ∧ (s.faultEffects c k m).uptime = s.uptime ∧
    (s.faultEffects c k m).freeCount = s.freeCount ∧ (s.faultEffects c k m).pins = s.pins ∧
    (s.faultEffects c k m).store = s.store ∧ (s.faultEffects c k m).load = s.load ∧
    (s.faultEffects c k m).sfe = s.sfe ∧ (s.faultEffects c k m).ldu = s.ldu ∧ (s.faultEffects c k m).lfc = s.lfc ∧
    (s.faultEffects c k m).wsu = s.wsu ∧ (s.faultEffects c k m).scu = s.scu ∧ (s.faultEffects c k m).rou = s.rou ∧
    (s.faultEffects c k m).tyu = s.tyu ∧ (s.faultEffects c k m).aac = s.aac ∧ (s.faultEffects c k m).xpt = s.xpt ∧
    (s.faultEffects c k m).port = s.port := by
  generalize h : s.faultEffects c k m = t
  unfold State.faultEffects at h
  try dsimp only at h
  (repeat' split at h) <;> (subst h; simp)

@[simp] theorem State.addCause_frame (s : State) (c : Channel) (k : Cause) :
    (s.addCause c k).pending = s.pending ∧ (s.addCause c k).uptime = s.uptime ∧
    (s.addCause c k).freeCount = s.freeCount ∧ (s.addCause c k).pins = s.pins ∧ (s.addCause c k).store = s.store ∧
    (s.addCause c k).load = s.load ∧ (s.addCause c k).sfe = s.sfe ∧ (s.addCause c k).ldu = s.ldu ∧
    (s.addCause c k).lfc = s.lfc ∧ (s.addCause c k).wsu = s.wsu ∧ (s.addCause c k).rou = s.rou ∧
    (s.addCause c k).tyu = s.tyu ∧ (s.addCause c k).aac = s.aac ∧ (s.addCause c k).xpt = s.xpt ∧
    (s.addCause c k).port = s.port := by
  generalize h : s.addCause c k = t
  unfold State.addCause at h
  try dsimp only at h
  (repeat' split at h) <;> (subst h; simp)

@[simp] theorem State.addSourceNone_frame (s : State) :
    (s.addSourceNone).pending = s.pending ∧ (s.addSourceNone).uptime = s.uptime ∧
    (s.addSourceNone).freeCount = s.freeCount ∧ (s.addSourceNone).pins = s.pins ∧ (s.addSourceNone).store = s.store ∧
    (s.addSourceNone).load = s.load ∧ (s.addSourceNone).sfe = s.sfe ∧ (s.addSourceNone).ldu = s.ldu ∧
    (s.addSourceNone).lfc = s.lfc ∧ (s.addSourceNone).wsu = s.wsu ∧ (s.addSourceNone).rou = s.rou ∧
    (s.addSourceNone).tyu = s.tyu ∧ (s.addSourceNone).aac = s.aac ∧ (s.addSourceNone).xpt = s.xpt ∧
    (s.addSourceNone).port = s.port := by
  generalize h : s.addSourceNone = t
  unfold State.addSourceNone at h
  try dsimp only at h
  subst h
  simp

@[simp] theorem State.regulateChannel_frame (s : State) (c : Channel) (p : Int) :
    (s.regulateChannel c p).pending = s.pending ∧ (s.regulateChannel c p).uptime = s.uptime ∧
    (s.regulateChannel c p).freeCount = s.freeCount ∧ (s.regulateChannel c p).pins = s.pins ∧
    (s.regulateChannel c p).store = s.store ∧ (s.regulateChannel c p).load = s.load ∧
    (s.regulateChannel c p).sfe = s.sfe ∧ (s.regulateChannel c p).ldu = s.ldu ∧ (s.regulateChannel c p).lfc = s.lfc ∧
    (s.regulateChannel c p).wsu = s.wsu ∧ (s.regulateChannel c p).rou = s.rou ∧ (s.regulateChannel c p).tyu = s.tyu ∧
    (s.regulateChannel c p).aac = s.aac ∧ (s.regulateChannel c p).xpt = s.xpt ∧ (s.regulateChannel c p).port = s.port := by
  generalize h : s.regulateChannel c p = t
  unfold State.regulateChannel at h
  try dsimp only at h
  (repeat' split at h) <;> (subst h; simp)

@[simp] theorem State.driveChannel_frame (s : State) (p : Int) (c : Channel) :
    (s.driveChannel p c).pending = s.pending ∧ (s.driveChannel p c).uptime = s.uptime ∧
    (s.driveChannel p c).freeCount = s.freeCount ∧ (s.driveChannel p c).pins = s.pins ∧
    (s.driveChannel p c).store = s.store ∧ (s.driveChannel p c).load = s.load ∧ (s.driveChannel p c).sfe = s.sfe ∧
    (s.driveChannel p c).ldu = s.ldu ∧ (s.driveChannel p c).lfc = s.lfc ∧ (s.driveChannel p c).wsu = s.wsu ∧
    (s.driveChannel p c).rou = s.rou ∧ (s.driveChannel p c).tyu = s.tyu ∧ (s.driveChannel p c).aac = s.aac ∧
    (s.driveChannel p c).xpt = s.xpt ∧ (s.driveChannel p c).port = s.port := by
  generalize h : s.driveChannel p c = t
  unfold State.driveChannel at h
  try dsimp only at h
  (repeat' split at h) <;> (subst h; simp)

@[simp] theorem State.clearChannel_frame (s : State) (c : Channel) :
    (s.clearChannel c).pending = s.pending ∧ (s.clearChannel c).uptime = s.uptime ∧
    (s.clearChannel c).freeCount = s.freeCount ∧ (s.clearChannel c).pins = s.pins ∧
    (s.clearChannel c).store = s.store ∧ (s.clearChannel c).load = s.load ∧ (s.clearChannel c).sfe = s.sfe ∧
    (s.clearChannel c).ldu = s.ldu ∧ (s.clearChannel c).lfc = s.lfc ∧ (s.clearChannel c).wsu = s.wsu ∧
    (s.clearChannel c).scu = s.scu ∧ (s.clearChannel c).rou = s.rou ∧ (s.clearChannel c).tyu = s.tyu ∧
    (s.clearChannel c).aac = s.aac ∧ (s.clearChannel c).xpt = s.xpt ∧ (s.clearChannel c).port = s.port := by
  generalize h : s.clearChannel c = t
  unfold State.clearChannel at h
  try dsimp only at h
  subst h
  simp

@[simp] theorem State.clearUnit_frame (s : State) (u : DriveUnit) :
    (s.clearUnit u).pending = s.pending ∧ (s.clearUnit u).uptime = s.uptime ∧
    (s.clearUnit u).freeCount = s.freeCount ∧ (s.clearUnit u).pins = s.pins ∧ (s.clearUnit u).store = s.store ∧
    (s.clearUnit u).load = s.load ∧ (s.clearUnit u).sfe = s.sfe ∧ (s.clearUnit u).ldu = s.ldu ∧
    (s.clearUnit u).lfc = s.lfc ∧ (s.clearUnit u).wsu = s.wsu ∧ (s.clearUnit u).scu = s.scu ∧
    (s.clearUnit u).rou = s.rou ∧ (s.clearUnit u).tyu = s.tyu ∧ (s.clearUnit u).aac = s.aac ∧
    (s.clearUnit u).xpt = s.xpt ∧ (s.clearUnit u).port = s.port := by
  unfold State.clearUnit
  cases u <;> split <;> simp [DriveUnit.channels]

@[simp] theorem State.clearFaults_frame (s : State) :
    (s.clearFaults).pending = s.pending ∧ (s.clearFaults).uptime = s.uptime ∧
    (s.clearFaults).freeCount = s.freeCount ∧ (s.clearFaults).pins = s.pins ∧ (s.clearFaults).store = s.store ∧
    (s.clearFaults).load = s.load ∧ (s.clearFaults).sfe = s.sfe ∧ (s.clearFaults).ldu = s.ldu ∧
    (s.clearFaults).lfc = s.lfc ∧ (s.clearFaults).wsu = s.wsu ∧ (s.clearFaults).scu = s.scu ∧
    (s.clearFaults).rou = s.rou ∧ (s.clearFaults).tyu = s.tyu ∧ (s.clearFaults).aac = s.aac ∧
    (s.clearFaults).port = s.port := by
  generalize h : s.clearFaults = t
  unfold State.clearFaults at h
  try dsimp only at h
  (repeat' split at h) <;> (subst h; simp)

@[simp] theorem State.restoreUnit_frame (s : State) (u : DriveUnit) :
    (s.restoreUnit u).pending = s.pending ∧ (s.restoreUnit u).uptime = s.uptime ∧
    (s.restoreUnit u).freeCount = s.freeCount ∧ (s.restoreUnit u).pins = s.pins ∧ (s.restoreUnit u).store = s.store ∧
    (s.restoreUnit u).load = s.load ∧ (s.restoreUnit u).sfe = s.sfe ∧ (s.restoreUnit u).ldu = s.ldu ∧
    (s.restoreUnit u).lfc = s.lfc ∧ (s.restoreUnit u).wsu = s.wsu ∧ (s.restoreUnit u).scu = s.scu ∧
    (s.restoreUnit u).rou = s.rou ∧ (s.restoreUnit u).tyu = s.tyu ∧ (s.restoreUnit u).aac = s.aac ∧
    (s.restoreUnit u).xpt = s.xpt ∧ (s.restoreUnit u).port = s.port ∧ (s.restoreUnit u).atc = s.atc ∧
    (s.restoreUnit u).health = s.health ∧ (s.restoreUnit u).jrw = s.jrw ∧ (s.restoreUnit u).mem = s.mem := by
  unfold State.restoreUnit
  cases u <;> split <;> simp [DriveUnit.channels]

@[simp] theorem State.adoptValve_frame (s : State) :
    (s.adoptValve).pending = s.pending ∧ (s.adoptValve).uptime = s.uptime ∧ (s.adoptValve).freeCount = s.freeCount ∧
    (s.adoptValve).pins = s.pins ∧ (s.adoptValve).store = s.store ∧ (s.adoptValve).load = s.load ∧
    (s.adoptValve).sfe = s.sfe ∧ (s.adoptValve).ldu = s.ldu ∧ (s.adoptValve).lfc = s.lfc ∧
    (s.adoptValve).wsu = s.wsu ∧ (s.adoptValve).scu = s.scu ∧ (s.adoptValve).rou = s.rou ∧
    (s.adoptValve).tyu = s.tyu ∧ (s.adoptValve).aac = s.aac ∧ (s.adoptValve).port = s.port := by
  generalize h : s.adoptValve = t
  unfold State.adoptValve at h
  try dsimp only at h
  (repeat' split at h) <;> (subst h; simp)

@[simp] theorem State.valvePeriod_frame (s : State) :
    (s.valvePeriod).pending = s.pending ∧ (s.valvePeriod).uptime = s.uptime ∧
    (s.valvePeriod).freeCount = s.freeCount ∧ (s.valvePeriod).pins = s.pins ∧ (s.valvePeriod).store = s.store ∧
    (s.valvePeriod).load = s.load ∧ (s.valvePeriod).sfe = s.sfe ∧ (s.valvePeriod).ldu = s.ldu ∧
    (s.valvePeriod).lfc = s.lfc ∧ (s.valvePeriod).wsu = s.wsu ∧ (s.valvePeriod).rou = s.rou ∧
    (s.valvePeriod).tyu = s.tyu ∧ (s.valvePeriod).aac = s.aac ∧ (s.valvePeriod).port = s.port := by
  simp [State.valvePeriod, Channel.all]

@[simp] theorem State.valvePeriodExpired_frame (s : State) :
    (s.valvePeriodExpired).pending = s.pending ∧ (s.valvePeriodExpired).uptime = s.uptime ∧
    (s.valvePeriodExpired).freeCount = s.freeCount ∧ (s.valvePeriodExpired).pins = s.pins ∧
    (s.valvePeriodExpired).store = s.store ∧ (s.valvePeriodExpired).load = s.load ∧
    (s.valvePeriodExpired).sfe = s.sfe ∧ (s.valvePeriodExpired).ldu = s.ldu ∧ (s.valvePeriodExpired).lfc = s.lfc ∧
    (s.valvePeriodExpired).wsu = s.wsu ∧ (s.valvePeriodExpired).rou = s.rou ∧ (s.valvePeriodExpired).tyu = s.tyu ∧
    (s.valvePeriodExpired).aac = s.aac ∧ (s.valvePeriodExpired).port = s.port := by
  generalize h : s.valvePeriodExpired = t
  unfold State.valvePeriodExpired at h
  try dsimp only at h
  (repeat' split at h) <;> (subst h; simp)

@[simp] theorem State.openWaiting_frame (s : State) (c : Channel) (d : Bool) :
    (s.openWaiting c d).pending = s.pending ∧ (s.openWaiting c d).uptime = s.uptime ∧
    (s.openWaiting c d).freeCount = s.freeCount ∧ (s.openWaiting c d).pins = s.pins ∧
    (s.openWaiting c d).store = s.store ∧ (s.openWaiting c d).load = s.load ∧ (s.openWaiting c d).sfe = s.sfe ∧
    (s.openWaiting c d).ldu = s.ldu ∧ (s.openWaiting c d).lfc = s.lfc ∧ (s.openWaiting c d).wsu = s.wsu ∧
    (s.openWaiting c d).scu = s.scu ∧ (s.openWaiting c d).rou = s.rou ∧ (s.openWaiting c d).tyu = s.tyu ∧
    (s.openWaiting c d).aac = s.aac ∧ (s.openWaiting c d).xpt = s.xpt ∧ (s.openWaiting c d).port = s.port ∧
    (s.openWaiting c d).atc = s.atc ∧ (s.openWaiting c d).health = s.health ∧ (s.openWaiting c d).jrw = s.jrw ∧
    (s.openWaiting c d).mem = s.mem := by
  generalize h : s.openWaiting c d = t
  unfold State.openWaiting at h
  try dsimp only at h
  (repeat' split at h) <;> (subst h; simp)

@[simp] theorem State.pulseEnded_frame (s : State) (c : Channel) :
    (s.pulseEnded c).pending = s.pending ∧ (s.pulseEnded c).uptime = s.uptime ∧
    (s.pulseEnded c).freeCount = s.freeCount ∧ (s.pulseEnded c).pins = s.pins ∧ (s.pulseEnded c).store = s.store ∧
    (s.pulseEnded c).load = s.load ∧ (s.pulseEnded c).sfe = s.sfe ∧ (s.pulseEnded c).ldu = s.ldu ∧
    (s.pulseEnded c).lfc = s.lfc ∧ (s.pulseEnded c).wsu = s.wsu ∧ (s.pulseEnded c).scu = s.scu ∧
    (s.pulseEnded c).rou = s.rou ∧ (s.pulseEnded c).tyu = s.tyu ∧ (s.pulseEnded c).aac = s.aac ∧
    (s.pulseEnded c).xpt = s.xpt ∧ (s.pulseEnded c).port = s.port ∧ (s.pulseEnded c).atc = s.atc ∧
    (s.pulseEnded c).health = s.health ∧ (s.pulseEnded c).jrw = s.jrw ∧ (s.pulseEnded c).mem = s.mem := by
  generalize h : s.pulseEnded c = t
  unfold State.pulseEnded at h
  try dsimp only at h
  (repeat' split at h) <;> (subst h; simp)

@[simp] theorem State.dumpEntry_frame (s : State) (c : Channel) :
    (s.dumpEntry c).pending = s.pending ∧ (s.dumpEntry c).uptime = s.uptime ∧
    (s.dumpEntry c).freeCount = s.freeCount ∧ (s.dumpEntry c).pins = s.pins ∧ (s.dumpEntry c).store = s.store ∧
    (s.dumpEntry c).load = s.load ∧ (s.dumpEntry c).sfe = s.sfe ∧ (s.dumpEntry c).ldu = s.ldu ∧
    (s.dumpEntry c).lfc = s.lfc ∧ (s.dumpEntry c).wsu = s.wsu ∧ (s.dumpEntry c).scu = s.scu ∧
    (s.dumpEntry c).rou = s.rou ∧ (s.dumpEntry c).tyu = s.tyu ∧ (s.dumpEntry c).aac = s.aac ∧
    (s.dumpEntry c).xpt = s.xpt ∧ (s.dumpEntry c).port = s.port ∧ (s.dumpEntry c).atc = s.atc ∧
    (s.dumpEntry c).health = s.health ∧ (s.dumpEntry c).jrw = s.jrw := by
  generalize h : s.dumpEntry c = t
  unfold State.dumpEntry at h
  try dsimp only at h
  (repeat' split at h) <;> (subst h; simp)

@[simp] theorem State.driverReported_frame (s : State) (c : Channel) (v : Valve) (i : Indication) :
    (s.driverReported c v i).pending = s.pending ∧ (s.driverReported c v i).uptime = s.uptime ∧
    (s.driverReported c v i).freeCount = s.freeCount ∧ (s.driverReported c v i).store = s.store ∧
    (s.driverReported c v i).load = s.load ∧ (s.driverReported c v i).sfe = s.sfe ∧
    (s.driverReported c v i).ldu = s.ldu ∧ (s.driverReported c v i).lfc = s.lfc ∧
    (s.driverReported c v i).wsu = s.wsu ∧ (s.driverReported c v i).rou = s.rou ∧
    (s.driverReported c v i).tyu = s.tyu ∧ (s.driverReported c v i).aac = s.aac ∧
    (s.driverReported c v i).xpt = s.xpt ∧ (s.driverReported c v i).port = s.port := by
  generalize h : s.driverReported c v i = t
  unfold State.driverReported at h
  try dsimp only at h
  (repeat' split at h) <;> (subst h; simp)

@[simp] theorem State.addStandingIndication_frame (s : State) (c : Channel) (v : Valve) :
    (s.addStandingIndication c v).pending = s.pending ∧ (s.addStandingIndication c v).uptime = s.uptime ∧
    (s.addStandingIndication c v).freeCount = s.freeCount ∧ (s.addStandingIndication c v).pins = s.pins ∧
    (s.addStandingIndication c v).store = s.store ∧ (s.addStandingIndication c v).load = s.load ∧
    (s.addStandingIndication c v).sfe = s.sfe ∧ (s.addStandingIndication c v).ldu = s.ldu ∧
    (s.addStandingIndication c v).lfc = s.lfc ∧ (s.addStandingIndication c v).wsu = s.wsu ∧
    (s.addStandingIndication c v).rou = s.rou ∧ (s.addStandingIndication c v).tyu = s.tyu ∧
    (s.addStandingIndication c v).aac = s.aac ∧ (s.addStandingIndication c v).xpt = s.xpt ∧
    (s.addStandingIndication c v).port = s.port := by
  generalize h : s.addStandingIndication c v = t
  unfold State.addStandingIndication at h
  try dsimp only at h
  (repeat' split at h) <;> (subst h; simp)

@[simp] theorem State.addStandingIndications_frame (s : State) :
    (s.addStandingIndications).pending = s.pending ∧ (s.addStandingIndications).uptime = s.uptime ∧
    (s.addStandingIndications).freeCount = s.freeCount ∧ (s.addStandingIndications).pins = s.pins ∧
    (s.addStandingIndications).store = s.store ∧ (s.addStandingIndications).load = s.load ∧
    (s.addStandingIndications).sfe = s.sfe ∧ (s.addStandingIndications).ldu = s.ldu ∧
    (s.addStandingIndications).lfc = s.lfc ∧ (s.addStandingIndications).wsu = s.wsu ∧
    (s.addStandingIndications).rou = s.rou ∧ (s.addStandingIndications).tyu = s.tyu ∧
    (s.addStandingIndications).aac = s.aac ∧ (s.addStandingIndications).xpt = s.xpt ∧
    (s.addStandingIndications).port = s.port := by
  simp [State.addStandingIndications, Channel.all]

/-! ### What the load unit and lift control leave alone -/

@[simp] theorem State.endMove_frame (s : State) (d : MoveDirection) (o : MoveOutcome) :
    (s.endMove d o).pending = s.pending ∧ (s.endMove d o).uptime = s.uptime ∧
    (s.endMove d o).freeCount = s.freeCount ∧ (s.endMove d o).pins = s.pins ∧ (s.endMove d o).store = s.store ∧
    (s.endMove d o).load = s.load ∧ (s.endMove d o).sfe = s.sfe ∧ (s.endMove d o).ldu = s.ldu ∧
    (s.endMove d o).wsu = s.wsu ∧ (s.endMove d o).scu = s.scu ∧ (s.endMove d o).mdu = s.mdu ∧
    (s.endMove d o).rou = s.rou ∧ (s.endMove d o).tyu = s.tyu ∧ (s.endMove d o).aac = s.aac ∧
    (s.endMove d o).xpt = s.xpt ∧ (s.endMove d o).port = s.port := by
  generalize h : s.endMove d o = t
  unfold State.endMove at h
  try dsimp only at h
  subst h
  simp

@[simp] theorem State.enterLowering_frame (s : State) (cause : MoveCause) :
    (s.enterLowering cause).pending = s.pending ∧ (s.enterLowering cause).uptime = s.uptime ∧
    (s.enterLowering cause).freeCount = s.freeCount ∧ (s.enterLowering cause).pins = s.pins ∧
    (s.enterLowering cause).store = s.store ∧ (s.enterLowering cause).load = s.load ∧
    (s.enterLowering cause).sfe = s.sfe ∧ (s.enterLowering cause).ldu = s.ldu ∧ (s.enterLowering cause).wsu = s.wsu ∧
    (s.enterLowering cause).scu = s.scu ∧ (s.enterLowering cause).mdu = s.mdu ∧ (s.enterLowering cause).rou = s.rou ∧
    (s.enterLowering cause).tyu = s.tyu ∧ (s.enterLowering cause).aac = s.aac ∧ (s.enterLowering cause).xpt = s.xpt ∧
    (s.enterLowering cause).port = s.port := by
  generalize h : s.enterLowering cause = t
  unfold State.enterLowering at h
  try dsimp only at h
  (repeat' split at h) <;> (subst h; simp)

@[simp] theorem State.decideUnknown_frame (s : State) :
    (s.decideUnknown).pending = s.pending ∧ (s.decideUnknown).uptime = s.uptime ∧
    (s.decideUnknown).freeCount = s.freeCount ∧ (s.decideUnknown).pins = s.pins ∧ (s.decideUnknown).store = s.store ∧
    (s.decideUnknown).load = s.load ∧ (s.decideUnknown).sfe = s.sfe ∧ (s.decideUnknown).scu = s.scu ∧
    (s.decideUnknown).mdu = s.mdu ∧ (s.decideUnknown).rou = s.rou ∧ (s.decideUnknown).tyu = s.tyu ∧
    (s.decideUnknown).aac = s.aac ∧ (s.decideUnknown).xpt = s.xpt ∧ (s.decideUnknown).port = s.port ∧
    (s.decideUnknown).atc = s.atc ∧ (s.decideUnknown).health = s.health ∧ (s.decideUnknown).jrw = s.jrw ∧
    (s.decideUnknown).mem = s.mem := by
  generalize h : s.decideUnknown = t
  unfold State.decideUnknown at h
  try dsimp only at h
  (repeat' split at h) <;> (subst h; simp)

@[simp] theorem State.decideLowered_frame (s : State) :
    (s.decideLowered).pending = s.pending ∧ (s.decideLowered).uptime = s.uptime ∧
    (s.decideLowered).freeCount = s.freeCount ∧ (s.decideLowered).pins = s.pins ∧ (s.decideLowered).store = s.store ∧
    (s.decideLowered).load = s.load ∧ (s.decideLowered).sfe = s.sfe ∧ (s.decideLowered).scu = s.scu ∧
    (s.decideLowered).mdu = s.mdu ∧ (s.decideLowered).tyu = s.tyu ∧ (s.decideLowered).xpt = s.xpt ∧
    (s.decideLowered).port = s.port := by
  generalize h : s.decideLowered = t
  unfold State.decideLowered at h
  try dsimp only at h
  (repeat' split at h) <;> (subst h; simp)

@[simp] theorem State.decideRaising_frame (s : State) :
    (s.decideRaising).pending = s.pending ∧ (s.decideRaising).uptime = s.uptime ∧
    (s.decideRaising).freeCount = s.freeCount ∧ (s.decideRaising).pins = s.pins ∧ (s.decideRaising).store = s.store ∧
    (s.decideRaising).load = s.load ∧ (s.decideRaising).sfe = s.sfe ∧ (s.decideRaising).wsu = s.wsu ∧
    (s.decideRaising).scu = s.scu ∧ (s.decideRaising).mdu = s.mdu ∧ (s.decideRaising).rou = s.rou ∧
    (s.decideRaising).tyu = s.tyu ∧ (s.decideRaising).aac = s.aac ∧ (s.decideRaising).xpt = s.xpt ∧
    (s.decideRaising).port = s.port := by
  generalize h : s.decideRaising = t
  unfold State.decideRaising at h
  try dsimp only at h
  (repeat' split at h) <;> (subst h; simp)

@[simp] theorem State.decideRaised_frame (s : State) :
    (s.decideRaised).pending = s.pending ∧ (s.decideRaised).uptime = s.uptime ∧
    (s.decideRaised).freeCount = s.freeCount ∧ (s.decideRaised).pins = s.pins ∧ (s.decideRaised).store = s.store ∧
    (s.decideRaised).load = s.load ∧ (s.decideRaised).sfe = s.sfe ∧ (s.decideRaised).ldu = s.ldu ∧
    (s.decideRaised).wsu = s.wsu ∧ (s.decideRaised).scu = s.scu ∧ (s.decideRaised).mdu = s.mdu ∧
    (s.decideRaised).rou = s.rou ∧ (s.decideRaised).tyu = s.tyu ∧ (s.decideRaised).aac = s.aac ∧
    (s.decideRaised).xpt = s.xpt ∧ (s.decideRaised).port = s.port := by
  generalize h : s.decideRaised = t
  unfold State.decideRaised at h
  try dsimp only at h
  (repeat' split at h) <;> (subst h; simp)

@[simp] theorem State.decideLowering_frame (s : State) :
    (s.decideLowering).pending = s.pending ∧ (s.decideLowering).uptime = s.uptime ∧
    (s.decideLowering).freeCount = s.freeCount ∧ (s.decideLowering).pins = s.pins ∧
    (s.decideLowering).store = s.store ∧ (s.decideLowering).load = s.load ∧ (s.decideLowering).sfe = s.sfe ∧
    (s.decideLowering).ldu = s.ldu ∧ (s.decideLowering).wsu = s.wsu ∧ (s.decideLowering).scu = s.scu ∧
    (s.decideLowering).mdu = s.mdu ∧ (s.decideLowering).rou = s.rou ∧ (s.decideLowering).tyu = s.tyu ∧
    (s.decideLowering).aac = s.aac ∧ (s.decideLowering).xpt = s.xpt ∧ (s.decideLowering).port = s.port := by
  generalize h : s.decideLowering = t
  unfold State.decideLowering at h
  try dsimp only at h
  (repeat' split at h) <;> (subst h; simp)

@[simp] theorem State.liftDecision_frame (s : State) :
    (s.liftDecision).pending = s.pending ∧ (s.liftDecision).uptime = s.uptime ∧
    (s.liftDecision).freeCount = s.freeCount ∧ (s.liftDecision).pins = s.pins ∧ (s.liftDecision).store = s.store ∧
    (s.liftDecision).load = s.load ∧ (s.liftDecision).sfe = s.sfe ∧ (s.liftDecision).scu = s.scu ∧
    (s.liftDecision).mdu = s.mdu ∧ (s.liftDecision).tyu = s.tyu ∧ (s.liftDecision).xpt = s.xpt ∧
    (s.liftDecision).port = s.port := by
  generalize h : s.liftDecision = t
  unfold State.liftDecision at h
  try dsimp only at h
  (repeat' split at h) <;> (subst h; simp)

@[simp] theorem State.liftPeriod_frame (s : State) :
    (s.liftPeriod).pending = s.pending ∧ (s.liftPeriod).uptime = s.uptime ∧ (s.liftPeriod).freeCount = s.freeCount ∧
    (s.liftPeriod).pins = s.pins ∧ (s.liftPeriod).store = s.store ∧ (s.liftPeriod).load = s.load ∧
    (s.liftPeriod).sfe = s.sfe ∧ (s.liftPeriod).scu = s.scu ∧ (s.liftPeriod).mdu = s.mdu ∧
    (s.liftPeriod).tyu = s.tyu ∧ (s.liftPeriod).xpt = s.xpt ∧ (s.liftPeriod).port = s.port := by
  generalize h : s.liftPeriod = t
  unfold State.liftPeriod at h
  try dsimp only at h
  subst h
  simp

@[simp] theorem State.fixAxle_frame (s : State) :
    (s.fixAxle).pending = s.pending ∧ (s.fixAxle).uptime = s.uptime ∧ (s.fixAxle).freeCount = s.freeCount ∧
    (s.fixAxle).pins = s.pins ∧ (s.fixAxle).store = s.store ∧ (s.fixAxle).load = s.load ∧ (s.fixAxle).sfe = s.sfe ∧
    (s.fixAxle).ldu = s.ldu ∧ (s.fixAxle).wsu = s.wsu ∧ (s.fixAxle).scu = s.scu ∧ (s.fixAxle).mdu = s.mdu ∧
    (s.fixAxle).rou = s.rou ∧ (s.fixAxle).tyu = s.tyu ∧ (s.fixAxle).aac = s.aac ∧ (s.fixAxle).xpt = s.xpt ∧
    (s.fixAxle).port = s.port ∧ (s.fixAxle).atc = s.atc ∧ (s.fixAxle).health = s.health ∧ (s.fixAxle).jrw = s.jrw ∧
    (s.fixAxle).mem = s.mem := by
  generalize h : s.fixAxle = t
  unfold State.fixAxle at h
  try dsimp only at h
  (repeat' split at h) <;> (subst h; simp)

@[simp] theorem State.rolloverLowering_frame (s : State) :
    (s.rolloverLowering).pending = s.pending ∧ (s.rolloverLowering).uptime = s.uptime ∧
    (s.rolloverLowering).freeCount = s.freeCount ∧ (s.rolloverLowering).pins = s.pins ∧
    (s.rolloverLowering).store = s.store ∧ (s.rolloverLowering).load = s.load ∧ (s.rolloverLowering).sfe = s.sfe ∧
    (s.rolloverLowering).ldu = s.ldu ∧ (s.rolloverLowering).wsu = s.wsu ∧ (s.rolloverLowering).scu = s.scu ∧
    (s.rolloverLowering).mdu = s.mdu ∧ (s.rolloverLowering).rou = s.rou ∧ (s.rolloverLowering).tyu = s.tyu ∧
    (s.rolloverLowering).aac = s.aac ∧ (s.rolloverLowering).xpt = s.xpt ∧ (s.rolloverLowering).port = s.port := by
  generalize h : s.rolloverLowering = t
  unfold State.rolloverLowering at h
  try dsimp only at h
  (repeat' split at h) <;> (subst h; simp)

@[simp] theorem State.moveTimedOut_frame (s : State) :
    (s.moveTimedOut).pending = s.pending ∧ (s.moveTimedOut).uptime = s.uptime ∧
    (s.moveTimedOut).freeCount = s.freeCount ∧ (s.moveTimedOut).pins = s.pins ∧ (s.moveTimedOut).store = s.store ∧
    (s.moveTimedOut).load = s.load ∧ (s.moveTimedOut).sfe = s.sfe ∧ (s.moveTimedOut).ldu = s.ldu ∧
    (s.moveTimedOut).wsu = s.wsu ∧ (s.moveTimedOut).scu = s.scu ∧ (s.moveTimedOut).mdu = s.mdu ∧
    (s.moveTimedOut).rou = s.rou ∧ (s.moveTimedOut).tyu = s.tyu ∧ (s.moveTimedOut).aac = s.aac ∧
    (s.moveTimedOut).xpt = s.xpt ∧ (s.moveTimedOut).port = s.port := by
  generalize h : s.moveTimedOut = t
  unfold State.moveTimedOut at h
  try dsimp only at h
  subst h
  simp

@[simp] theorem State.moveTimerExpired_frame (s : State) :
    (s.moveTimerExpired).pending = s.pending ∧ (s.moveTimerExpired).uptime = s.uptime ∧
    (s.moveTimerExpired).freeCount = s.freeCount ∧ (s.moveTimerExpired).pins = s.pins ∧
    (s.moveTimerExpired).store = s.store ∧ (s.moveTimerExpired).load = s.load ∧ (s.moveTimerExpired).sfe = s.sfe ∧
    (s.moveTimerExpired).ldu = s.ldu ∧ (s.moveTimerExpired).wsu = s.wsu ∧ (s.moveTimerExpired).scu = s.scu ∧
    (s.moveTimerExpired).mdu = s.mdu ∧ (s.moveTimerExpired).rou = s.rou ∧ (s.moveTimerExpired).tyu = s.tyu ∧
    (s.moveTimerExpired).aac = s.aac ∧ (s.moveTimerExpired).xpt = s.xpt ∧ (s.moveTimerExpired).port = s.port := by
  generalize h : s.moveTimerExpired = t
  unfold State.moveTimerExpired at h
  try dsimp only at h
  (repeat' split at h) <;> (subst h; simp)

@[simp] theorem State.compareStamp_frame (s : State) :
    (s.compareStamp).pending = s.pending ∧ (s.compareStamp).uptime = s.uptime ∧
    (s.compareStamp).freeCount = s.freeCount ∧ (s.compareStamp).pins = s.pins ∧ (s.compareStamp).store = s.store ∧
    (s.compareStamp).load = s.load ∧ (s.compareStamp).sfe = s.sfe ∧ (s.compareStamp).lfc = s.lfc ∧
    (s.compareStamp).wsu = s.wsu ∧ (s.compareStamp).scu = s.scu ∧ (s.compareStamp).mdu = s.mdu ∧
    (s.compareStamp).rou = s.rou ∧ (s.compareStamp).tyu = s.tyu ∧ (s.compareStamp).aac = s.aac ∧
    (s.compareStamp).xpt = s.xpt ∧ (s.compareStamp).port = s.port ∧ (s.compareStamp).atc = s.atc ∧
    (s.compareStamp).health = s.health ∧ (s.compareStamp).jrw = s.jrw ∧ (s.compareStamp).mem = s.mem := by
  generalize h : s.compareStamp = t
  unfold State.compareStamp at h
  try dsimp only at h
  (repeat' split at h) <;> (subst h; simp)

@[simp] theorem State.reportFreshness_frame (s : State) (b : Bool) :
    (s.reportFreshness b).pending = s.pending ∧ (s.reportFreshness b).uptime = s.uptime ∧
    (s.reportFreshness b).freeCount = s.freeCount ∧ (s.reportFreshness b).pins = s.pins ∧
    (s.reportFreshness b).store = s.store ∧ (s.reportFreshness b).load = s.load ∧ (s.reportFreshness b).sfe = s.sfe ∧
    (s.reportFreshness b).ldu = s.ldu ∧ (s.reportFreshness b).lfc = s.lfc ∧ (s.reportFreshness b).wsu = s.wsu ∧
    (s.reportFreshness b).scu = s.scu ∧ (s.reportFreshness b).mdu = s.mdu ∧ (s.reportFreshness b).rou = s.rou ∧
    (s.reportFreshness b).tyu = s.tyu ∧ (s.reportFreshness b).aac = s.aac ∧ (s.reportFreshness b).xpt = s.xpt ∧
    (s.reportFreshness b).port = s.port := by
  generalize h : s.reportFreshness b = t
  unfold State.reportFreshness at h
  try dsimp only at h
  (repeat' split at h) <;> (subst h; simp)

@[simp] theorem State.sourceChanged_frame (s : State) (o : Source) :
    (s.sourceChanged o).pending = s.pending ∧ (s.sourceChanged o).uptime = s.uptime ∧
    (s.sourceChanged o).freeCount = s.freeCount ∧ (s.sourceChanged o).pins = s.pins ∧
    (s.sourceChanged o).store = s.store ∧ (s.sourceChanged o).load = s.load ∧ (s.sourceChanged o).sfe = s.sfe ∧
    (s.sourceChanged o).ldu = s.ldu ∧ (s.sourceChanged o).lfc = s.lfc ∧ (s.sourceChanged o).wsu = s.wsu ∧
    (s.sourceChanged o).rou = s.rou ∧ (s.sourceChanged o).tyu = s.tyu ∧ (s.sourceChanged o).aac = s.aac ∧
    (s.sourceChanged o).xpt = s.xpt ∧ (s.sourceChanged o).port = s.port := by
  generalize h : s.sourceChanged o = t
  unfold State.sourceChanged at h
  try dsimp only at h
  (repeat' split at h) <;> (subst h; simp)

@[simp] theorem State.selectSource_frame (s : State) :
    (s.selectSource).pending = s.pending ∧ (s.selectSource).uptime = s.uptime ∧
    (s.selectSource).freeCount = s.freeCount ∧ (s.selectSource).pins = s.pins ∧ (s.selectSource).store = s.store ∧
    (s.selectSource).load = s.load ∧ (s.selectSource).sfe = s.sfe ∧ (s.selectSource).lfc = s.lfc ∧
    (s.selectSource).wsu = s.wsu ∧ (s.selectSource).rou = s.rou ∧ (s.selectSource).tyu = s.tyu ∧
    (s.selectSource).aac = s.aac ∧ (s.selectSource).xpt = s.xpt ∧ (s.selectSource).port = s.port := by
  generalize h : s.selectSource = t
  unfold State.selectSource at h
  try dsimp only at h
  subst h
  simp

@[simp] theorem State.declareMismatch_frame (s : State) :
    (s.declareMismatch).pending = s.pending ∧ (s.declareMismatch).uptime = s.uptime ∧
    (s.declareMismatch).freeCount = s.freeCount ∧ (s.declareMismatch).pins = s.pins ∧
    (s.declareMismatch).store = s.store ∧ (s.declareMismatch).load = s.load ∧ (s.declareMismatch).sfe = s.sfe ∧
    (s.declareMismatch).lfc = s.lfc ∧ (s.declareMismatch).wsu = s.wsu ∧ (s.declareMismatch).scu = s.scu ∧
    (s.declareMismatch).mdu = s.mdu ∧ (s.declareMismatch).rou = s.rou ∧ (s.declareMismatch).tyu = s.tyu ∧
    (s.declareMismatch).aac = s.aac ∧ (s.declareMismatch).xpt = s.xpt ∧ (s.declareMismatch).port = s.port := by
  generalize h : s.declareMismatch = t
  unfold State.declareMismatch at h
  try dsimp only at h
  subst h
  simp

@[simp] theorem State.endMismatch_frame (s : State) :
    (s.endMismatch).pending = s.pending ∧ (s.endMismatch).uptime = s.uptime ∧
    (s.endMismatch).freeCount = s.freeCount ∧ (s.endMismatch).pins = s.pins ∧ (s.endMismatch).store = s.store ∧
    (s.endMismatch).load = s.load ∧ (s.endMismatch).sfe = s.sfe ∧ (s.endMismatch).lfc = s.lfc ∧
    (s.endMismatch).wsu = s.wsu ∧ (s.endMismatch).scu = s.scu ∧ (s.endMismatch).mdu = s.mdu ∧
    (s.endMismatch).rou = s.rou ∧ (s.endMismatch).tyu = s.tyu ∧ (s.endMismatch).aac = s.aac ∧
    (s.endMismatch).xpt = s.xpt ∧ (s.endMismatch).port = s.port := by
  generalize h : s.endMismatch = t
  unfold State.endMismatch at h
  try dsimp only at h
  (repeat' split at h) <;> (subst h; simp)

@[simp] theorem State.judgeMismatch_frame (s : State) :
    (s.judgeMismatch).pending = s.pending ∧ (s.judgeMismatch).uptime = s.uptime ∧
    (s.judgeMismatch).freeCount = s.freeCount ∧ (s.judgeMismatch).pins = s.pins ∧ (s.judgeMismatch).store = s.store ∧
    (s.judgeMismatch).load = s.load ∧ (s.judgeMismatch).sfe = s.sfe ∧ (s.judgeMismatch).lfc = s.lfc ∧
    (s.judgeMismatch).wsu = s.wsu ∧ (s.judgeMismatch).scu = s.scu ∧ (s.judgeMismatch).mdu = s.mdu ∧
    (s.judgeMismatch).rou = s.rou ∧ (s.judgeMismatch).tyu = s.tyu ∧ (s.judgeMismatch).aac = s.aac ∧
    (s.judgeMismatch).xpt = s.xpt ∧ (s.judgeMismatch).port = s.port := by
  generalize h : s.judgeMismatch = t
  unfold State.judgeMismatch at h
  try dsimp only at h
  (repeat' split at h) <;> (subst h; simp)

@[simp] theorem State.enterActive_frame (s : State) :
    (s.enterActive).pending = s.pending ∧ (s.enterActive).uptime = s.uptime ∧
    (s.enterActive).freeCount = s.freeCount ∧ (s.enterActive).pins = s.pins ∧ (s.enterActive).store = s.store ∧
    (s.enterActive).load = s.load ∧ (s.enterActive).sfe = s.sfe ∧ (s.enterActive).ldu = s.ldu ∧
    (s.enterActive).lfc = s.lfc ∧ (s.enterActive).wsu = s.wsu ∧ (s.enterActive).scu = s.scu ∧
    (s.enterActive).rou = s.rou ∧ (s.enterActive).tyu = s.tyu ∧ (s.enterActive).aac = s.aac ∧
    (s.enterActive).port = s.port := by
  generalize h : s.enterActive = t
  unfold State.enterActive at h
  try dsimp only at h
  (repeat' split at h) <;> (subst h; simp)

@[simp] theorem State.adoptVehicle_frame (s : State) :
    (s.adoptVehicle).pending = s.pending ∧ (s.adoptVehicle).uptime = s.uptime ∧
    (s.adoptVehicle).freeCount = s.freeCount ∧ (s.adoptVehicle).pins = s.pins ∧ (s.adoptVehicle).store = s.store ∧
    (s.adoptVehicle).load = s.load ∧ (s.adoptVehicle).sfe = s.sfe ∧ (s.adoptVehicle).wsu = s.wsu ∧
    (s.adoptVehicle).scu = s.scu ∧ (s.adoptVehicle).rou = s.rou ∧ (s.adoptVehicle).tyu = s.tyu ∧
    (s.adoptVehicle).aac = s.aac ∧ (s.adoptVehicle).port = s.port := by
  generalize h : s.adoptVehicle = t
  unfold State.adoptVehicle at h
  try dsimp only at h
  (repeat' split at h) <;> (subst h; simp)

@[simp] theorem State.adoptLoad_frame (s : State) :
    (s.adoptLoad).pending = s.pending ∧ (s.adoptLoad).uptime = s.uptime ∧ (s.adoptLoad).freeCount = s.freeCount ∧
    (s.adoptLoad).pins = s.pins ∧ (s.adoptLoad).store = s.store ∧ (s.adoptLoad).load = s.load ∧
    (s.adoptLoad).sfe = s.sfe ∧ (s.adoptLoad).lfc = s.lfc ∧ (s.adoptLoad).wsu = s.wsu ∧ (s.adoptLoad).scu = s.scu ∧
    (s.adoptLoad).mdu = s.mdu ∧ (s.adoptLoad).rou = s.rou ∧ (s.adoptLoad).tyu = s.tyu ∧ (s.adoptLoad).aac = s.aac ∧
    (s.adoptLoad).port = s.port := by
  generalize h : s.adoptLoad = t
  unfold State.adoptLoad at h
  try dsimp only at h
  (repeat' split at h) <;> (subst h; simp)

@[simp] theorem State.adoptLduGroups_frame (s : State) :
    (s.adoptLduGroups).pending = s.pending ∧ (s.adoptLduGroups).uptime = s.uptime ∧
    (s.adoptLduGroups).freeCount = s.freeCount ∧ (s.adoptLduGroups).pins = s.pins ∧
    (s.adoptLduGroups).store = s.store ∧ (s.adoptLduGroups).load = s.load ∧ (s.adoptLduGroups).sfe = s.sfe ∧
    (s.adoptLduGroups).wsu = s.wsu ∧ (s.adoptLduGroups).scu = s.scu ∧ (s.adoptLduGroups).rou = s.rou ∧
    (s.adoptLduGroups).tyu = s.tyu ∧ (s.adoptLduGroups).aac = s.aac ∧ (s.adoptLduGroups).port = s.port := by
  generalize h : s.adoptLduGroups = t
  unfold State.adoptLduGroups at h
  try dsimp only at h
  (repeat' split at h) <;> (subst h; simp)

@[simp] theorem State.computeAxles_frame (s : State) :
    (s.computeAxles).pending = s.pending ∧ (s.computeAxles).uptime = s.uptime ∧
    (s.computeAxles).freeCount = s.freeCount ∧ (s.computeAxles).pins = s.pins ∧ (s.computeAxles).store = s.store ∧
    (s.computeAxles).load = s.load ∧ (s.computeAxles).sfe = s.sfe ∧ (s.computeAxles).lfc = s.lfc ∧
    (s.computeAxles).wsu = s.wsu ∧ (s.computeAxles).scu = s.scu ∧ (s.computeAxles).mdu = s.mdu ∧
    (s.computeAxles).rou = s.rou ∧ (s.computeAxles).tyu = s.tyu ∧ (s.computeAxles).aac = s.aac ∧
    (s.computeAxles).xpt = s.xpt ∧ (s.computeAxles).port = s.port ∧ (s.computeAxles).atc = s.atc ∧
    (s.computeAxles).health = s.health ∧ (s.computeAxles).jrw = s.jrw ∧ (s.computeAxles).mem = s.mem := by
  generalize h : s.computeAxles = t
  unfold State.computeAxles at h
  try dsimp only at h
  (repeat' split at h) <;> (subst h; simp)

@[simp] theorem State.lduDemandSteps_frame (s : State) :
    (s.lduDemandSteps).pending = s.pending ∧ (s.lduDemandSteps).uptime = s.uptime ∧
    (s.lduDemandSteps).freeCount = s.freeCount ∧ (s.lduDemandSteps).pins = s.pins ∧
    (s.lduDemandSteps).store = s.store ∧ (s.lduDemandSteps).load = s.load ∧ (s.lduDemandSteps).sfe = s.sfe ∧
    (s.lduDemandSteps).lfc = s.lfc ∧ (s.lduDemandSteps).wsu = s.wsu ∧ (s.lduDemandSteps).rou = s.rou ∧
    (s.lduDemandSteps).tyu = s.tyu ∧ (s.lduDemandSteps).aac = s.aac ∧ (s.lduDemandSteps).xpt = s.xpt ∧
    (s.lduDemandSteps).port = s.port := by
  generalize h : s.lduDemandSteps = t
  unfold State.lduDemandSteps at h
  try dsimp only at h
  subst h
  simp

@[simp] theorem State.lduPeriod_frame (s : State) :
    (s.lduPeriod).pending = s.pending ∧ (s.lduPeriod).uptime = s.uptime ∧ (s.lduPeriod).freeCount = s.freeCount ∧
    (s.lduPeriod).pins = s.pins ∧ (s.lduPeriod).store = s.store ∧ (s.lduPeriod).load = s.load ∧
    (s.lduPeriod).sfe = s.sfe ∧ (s.lduPeriod).tyu = s.tyu ∧ (s.lduPeriod).port = s.port := by
  generalize h : s.lduPeriod = t
  unfold State.lduPeriod at h
  try dsimp only at h
  subst h
  simp

@[simp] theorem State.lduPeriodExpired_frame (s : State) :
    (s.lduPeriodExpired).pending = s.pending ∧ (s.lduPeriodExpired).uptime = s.uptime ∧
    (s.lduPeriodExpired).freeCount = s.freeCount ∧ (s.lduPeriodExpired).pins = s.pins ∧
    (s.lduPeriodExpired).store = s.store ∧ (s.lduPeriodExpired).load = s.load ∧ (s.lduPeriodExpired).sfe = s.sfe ∧
    (s.lduPeriodExpired).tyu = s.tyu ∧ (s.lduPeriodExpired).port = s.port := by
  generalize h : s.lduPeriodExpired = t
  unfold State.lduPeriodExpired at h
  try dsimp only at h
  (repeat' split at h) <;> (subst h; simp)

/-! ### What the wheel speed and slip control units leave alone -/

@[simp] theorem State.fixTravel_frame (s : State) :
    (s.fixTravel).pending = s.pending ∧ (s.fixTravel).uptime = s.uptime ∧ (s.fixTravel).freeCount = s.freeCount ∧
    (s.fixTravel).pins = s.pins ∧ (s.fixTravel).store = s.store ∧ (s.fixTravel).load = s.load ∧
    (s.fixTravel).sfe = s.sfe ∧ (s.fixTravel).ldu = s.ldu ∧ (s.fixTravel).lfc = s.lfc ∧ (s.fixTravel).scu = s.scu ∧
    (s.fixTravel).mdu = s.mdu ∧ (s.fixTravel).rou = s.rou ∧ (s.fixTravel).tyu = s.tyu ∧ (s.fixTravel).aac = s.aac ∧
    (s.fixTravel).xpt = s.xpt ∧ (s.fixTravel).port = s.port ∧ (s.fixTravel).atc = s.atc ∧
    (s.fixTravel).health = s.health ∧ (s.fixTravel).jrw = s.jrw ∧ (s.fixTravel).mem = s.mem := by
  simp [State.fixTravel, State.eachWheel, Wheel.all]

@[simp] theorem State.measureSpeeds_frame (s : State) :
    (s.measureSpeeds).pending = s.pending ∧ (s.measureSpeeds).uptime = s.uptime ∧ (s.measureSpeeds).pins = s.pins ∧
    (s.measureSpeeds).store = s.store ∧ (s.measureSpeeds).load = s.load ∧ (s.measureSpeeds).sfe = s.sfe ∧
    (s.measureSpeeds).ldu = s.ldu ∧ (s.measureSpeeds).lfc = s.lfc ∧ (s.measureSpeeds).scu = s.scu ∧
    (s.measureSpeeds).mdu = s.mdu ∧ (s.measureSpeeds).rou = s.rou ∧ (s.measureSpeeds).tyu = s.tyu ∧
    (s.measureSpeeds).aac = s.aac ∧ (s.measureSpeeds).xpt = s.xpt ∧ (s.measureSpeeds).port = s.port ∧
    (s.measureSpeeds).atc = s.atc ∧ (s.measureSpeeds).health = s.health ∧ (s.measureSpeeds).jrw = s.jrw ∧
    (s.measureSpeeds).mem = s.mem := by
  simp [State.measureSpeeds, State.eachWheel, Wheel.all]

@[simp] theorem State.correctSpeeds_frame (s : State) :
    (s.correctSpeeds).pending = s.pending ∧ (s.correctSpeeds).uptime = s.uptime ∧
    (s.correctSpeeds).freeCount = s.freeCount ∧ (s.correctSpeeds).pins = s.pins ∧ (s.correctSpeeds).store = s.store ∧
    (s.correctSpeeds).load = s.load ∧ (s.correctSpeeds).sfe = s.sfe ∧ (s.correctSpeeds).ldu = s.ldu ∧
    (s.correctSpeeds).lfc = s.lfc ∧ (s.correctSpeeds).scu = s.scu ∧ (s.correctSpeeds).mdu = s.mdu ∧
    (s.correctSpeeds).rou = s.rou ∧ (s.correctSpeeds).tyu = s.tyu ∧ (s.correctSpeeds).aac = s.aac ∧
    (s.correctSpeeds).xpt = s.xpt ∧ (s.correctSpeeds).port = s.port ∧ (s.correctSpeeds).atc = s.atc ∧
    (s.correctSpeeds).health = s.health ∧ (s.correctSpeeds).jrw = s.jrw ∧ (s.correctSpeeds).mem = s.mem := by
  simp [State.correctSpeeds, State.eachWheel, Wheel.all]

@[simp] theorem State.settleExclusions_frame (s : State) :
    (s.settleExclusions).pending = s.pending ∧ (s.settleExclusions).uptime = s.uptime ∧
    (s.settleExclusions).freeCount = s.freeCount ∧ (s.settleExclusions).pins = s.pins ∧
    (s.settleExclusions).store = s.store ∧ (s.settleExclusions).load = s.load ∧ (s.settleExclusions).sfe = s.sfe ∧
    (s.settleExclusions).ldu = s.ldu ∧ (s.settleExclusions).lfc = s.lfc ∧ (s.settleExclusions).scu = s.scu ∧
    (s.settleExclusions).mdu = s.mdu ∧ (s.settleExclusions).rou = s.rou ∧ (s.settleExclusions).tyu = s.tyu ∧
    (s.settleExclusions).aac = s.aac ∧ (s.settleExclusions).xpt = s.xpt ∧ (s.settleExclusions).port = s.port ∧
    (s.settleExclusions).atc = s.atc ∧ (s.settleExclusions).health = s.health ∧ (s.settleExclusions).jrw = s.jrw ∧
    (s.settleExclusions).mem = s.mem := by
  simp [State.settleExclusions, State.eachWheel, Wheel.all]

@[simp] theorem State.computeSlips_frame (s : State) :
    (s.computeSlips).pending = s.pending ∧ (s.computeSlips).uptime = s.uptime ∧
    (s.computeSlips).freeCount = s.freeCount ∧ (s.computeSlips).pins = s.pins ∧ (s.computeSlips).store = s.store ∧
    (s.computeSlips).load = s.load ∧ (s.computeSlips).sfe = s.sfe ∧ (s.computeSlips).ldu = s.ldu ∧
    (s.computeSlips).lfc = s.lfc ∧ (s.computeSlips).scu = s.scu ∧ (s.computeSlips).mdu = s.mdu ∧
    (s.computeSlips).rou = s.rou ∧ (s.computeSlips).tyu = s.tyu ∧ (s.computeSlips).aac = s.aac ∧
    (s.computeSlips).xpt = s.xpt ∧ (s.computeSlips).port = s.port ∧ (s.computeSlips).atc = s.atc ∧
    (s.computeSlips).health = s.health ∧ (s.computeSlips).jrw = s.jrw ∧ (s.computeSlips).mem = s.mem := by
  simp [State.computeSlips, State.eachWheel, Wheel.all]

@[simp] theorem State.edgeArrived_frame (s : State) (w : Wheel) :
    (s.edgeArrived w).pending = s.pending ∧ (s.edgeArrived w).uptime = s.uptime ∧
    (s.edgeArrived w).freeCount = s.freeCount ∧ (s.edgeArrived w).pins = s.pins ∧ (s.edgeArrived w).store = s.store ∧
    (s.edgeArrived w).load = s.load ∧ (s.edgeArrived w).sfe = s.sfe ∧ (s.edgeArrived w).ldu = s.ldu ∧
    (s.edgeArrived w).lfc = s.lfc ∧ (s.edgeArrived w).scu = s.scu ∧ (s.edgeArrived w).mdu = s.mdu ∧
    (s.edgeArrived w).rou = s.rou ∧ (s.edgeArrived w).tyu = s.tyu ∧ (s.edgeArrived w).aac = s.aac ∧
    (s.edgeArrived w).xpt = s.xpt ∧ (s.edgeArrived w).port = s.port ∧ (s.edgeArrived w).atc = s.atc ∧
    (s.edgeArrived w).health = s.health ∧ (s.edgeArrived w).jrw = s.jrw ∧ (s.edgeArrived w).mem = s.mem := by
  generalize h : s.edgeArrived w = t
  unfold State.edgeArrived at h
  try dsimp only at h
  (repeat' split at h) <;> (subst h; simp)

@[simp] theorem State.declareOpen_frame (s : State) (w : Wheel) :
    (s.declareOpen w).pending = s.pending ∧ (s.declareOpen w).uptime = s.uptime ∧
    (s.declareOpen w).freeCount = s.freeCount ∧ (s.declareOpen w).pins = s.pins ∧ (s.declareOpen w).store = s.store ∧
    (s.declareOpen w).load = s.load ∧ (s.declareOpen w).sfe = s.sfe ∧ (s.declareOpen w).ldu = s.ldu ∧
    (s.declareOpen w).lfc = s.lfc ∧ (s.declareOpen w).scu = s.scu ∧ (s.declareOpen w).mdu = s.mdu ∧
    (s.declareOpen w).rou = s.rou ∧ (s.declareOpen w).tyu = s.tyu ∧ (s.declareOpen w).aac = s.aac ∧
    (s.declareOpen w).xpt = s.xpt ∧ (s.declareOpen w).port = s.port := by
  generalize h : s.declareOpen w = t
  unfold State.declareOpen at h
  try dsimp only at h
  subst h
  simp

@[simp] theorem State.declareZeroSpeed_frame (s : State) (w : Wheel) :
    (s.declareZeroSpeed w).pending = s.pending ∧ (s.declareZeroSpeed w).uptime = s.uptime ∧
    (s.declareZeroSpeed w).freeCount = s.freeCount ∧ (s.declareZeroSpeed w).pins = s.pins ∧
    (s.declareZeroSpeed w).store = s.store ∧ (s.declareZeroSpeed w).load = s.load ∧
    (s.declareZeroSpeed w).sfe = s.sfe ∧ (s.declareZeroSpeed w).ldu = s.ldu ∧ (s.declareZeroSpeed w).lfc = s.lfc ∧
    (s.declareZeroSpeed w).scu = s.scu ∧ (s.declareZeroSpeed w).mdu = s.mdu ∧ (s.declareZeroSpeed w).rou = s.rou ∧
    (s.declareZeroSpeed w).tyu = s.tyu ∧ (s.declareZeroSpeed w).aac = s.aac ∧ (s.declareZeroSpeed w).xpt = s.xpt ∧
    (s.declareZeroSpeed w).port = s.port := by
  generalize h : s.declareZeroSpeed w = t
  unfold State.declareZeroSpeed at h
  try dsimp only at h
  subst h
  simp

@[simp] theorem State.judgeZeroSpeed_frame (s : State) (w : Wheel) :
    (s.judgeZeroSpeed w).pending = s.pending ∧ (s.judgeZeroSpeed w).uptime = s.uptime ∧
    (s.judgeZeroSpeed w).freeCount = s.freeCount ∧ (s.judgeZeroSpeed w).pins = s.pins ∧
    (s.judgeZeroSpeed w).store = s.store ∧ (s.judgeZeroSpeed w).load = s.load ∧ (s.judgeZeroSpeed w).sfe = s.sfe ∧
    (s.judgeZeroSpeed w).ldu = s.ldu ∧ (s.judgeZeroSpeed w).lfc = s.lfc ∧ (s.judgeZeroSpeed w).scu = s.scu ∧
    (s.judgeZeroSpeed w).mdu = s.mdu ∧ (s.judgeZeroSpeed w).rou = s.rou ∧ (s.judgeZeroSpeed w).tyu = s.tyu ∧
    (s.judgeZeroSpeed w).aac = s.aac ∧ (s.judgeZeroSpeed w).xpt = s.xpt ∧ (s.judgeZeroSpeed w).port = s.port := by
  generalize h : s.judgeZeroSpeed w = t
  unfold State.judgeZeroSpeed at h
  try dsimp only at h
  (repeat' split at h) <;> (subst h; simp)

@[simp] theorem State.clearWheelFault_frame (s : State) (w : Wheel) (v : Int) :
    (s.clearWheelFault w v).pending = s.pending ∧ (s.clearWheelFault w v).uptime = s.uptime ∧
    (s.clearWheelFault w v).freeCount = s.freeCount ∧ (s.clearWheelFault w v).pins = s.pins ∧
    (s.clearWheelFault w v).store = s.store ∧ (s.clearWheelFault w v).load = s.load ∧
    (s.clearWheelFault w v).sfe = s.sfe ∧ (s.clearWheelFault w v).ldu = s.ldu ∧ (s.clearWheelFault w v).lfc = s.lfc ∧
    (s.clearWheelFault w v).scu = s.scu ∧ (s.clearWheelFault w v).mdu = s.mdu ∧ (s.clearWheelFault w v).rou = s.rou ∧
    (s.clearWheelFault w v).tyu = s.tyu ∧ (s.clearWheelFault w v).aac = s.aac ∧ (s.clearWheelFault w v).xpt = s.xpt ∧
    (s.clearWheelFault w v).port = s.port := by
  generalize h : s.clearWheelFault w v = t
  unfold State.clearWheelFault at h
  try dsimp only at h
  subst h
  simp

@[simp] theorem State.judgeRecovery_frame (s : State) (w : Wheel) (n : Nat) (v : Int) :
    (s.judgeRecovery w n v).pending = s.pending ∧ (s.judgeRecovery w n v).uptime = s.uptime ∧
    (s.judgeRecovery w n v).freeCount = s.freeCount ∧ (s.judgeRecovery w n v).pins = s.pins ∧
    (s.judgeRecovery w n v).store = s.store ∧ (s.judgeRecovery w n v).load = s.load ∧
    (s.judgeRecovery w n v).sfe = s.sfe ∧ (s.judgeRecovery w n v).ldu = s.ldu ∧ (s.judgeRecovery w n v).lfc = s.lfc ∧
    (s.judgeRecovery w n v).scu = s.scu ∧ (s.judgeRecovery w n v).mdu = s.mdu ∧ (s.judgeRecovery w n v).rou = s.rou ∧
    (s.judgeRecovery w n v).tyu = s.tyu ∧ (s.judgeRecovery w n v).aac = s.aac ∧ (s.judgeRecovery w n v).xpt = s.xpt ∧
    (s.judgeRecovery w n v).port = s.port := by
  generalize h : s.judgeRecovery w n v = t
  unfold State.judgeRecovery at h
  try dsimp only at h
  (repeat' split at h) <;> (subst h; simp)

@[simp] theorem State.judgeCircuit_frame (x : PerWheel Circuit) (s : State) (w : Wheel) :
    (State.judgeCircuit x s w).pending = s.pending ∧ (State.judgeCircuit x s w).uptime = s.uptime ∧
    (State.judgeCircuit x s w).freeCount = s.freeCount ∧ (State.judgeCircuit x s w).pins = s.pins ∧
    (State.judgeCircuit x s w).store = s.store ∧ (State.judgeCircuit x s w).load = s.load ∧
    (State.judgeCircuit x s w).sfe = s.sfe ∧ (State.judgeCircuit x s w).ldu = s.ldu ∧
    (State.judgeCircuit x s w).lfc = s.lfc ∧ (State.judgeCircuit x s w).scu = s.scu ∧
    (State.judgeCircuit x s w).mdu = s.mdu ∧ (State.judgeCircuit x s w).rou = s.rou ∧
    (State.judgeCircuit x s w).tyu = s.tyu ∧ (State.judgeCircuit x s w).aac = s.aac ∧
    (State.judgeCircuit x s w).xpt = s.xpt ∧ (State.judgeCircuit x s w).port = s.port := by
  generalize h : State.judgeCircuit x s w = t
  unfold State.judgeCircuit at h
  try dsimp only at h
  (repeat' split at h) <;> (subst h; simp)

@[simp] theorem State.judgeSensor_frame (b s : State) (w : Wheel) :
    (State.judgeSensor b s w).pending = s.pending ∧ (State.judgeSensor b s w).uptime = s.uptime ∧
    (State.judgeSensor b s w).freeCount = s.freeCount ∧ (State.judgeSensor b s w).pins = s.pins ∧
    (State.judgeSensor b s w).store = s.store ∧ (State.judgeSensor b s w).load = s.load ∧
    (State.judgeSensor b s w).sfe = s.sfe ∧ (State.judgeSensor b s w).ldu = s.ldu ∧
    (State.judgeSensor b s w).lfc = s.lfc ∧ (State.judgeSensor b s w).scu = s.scu ∧
    (State.judgeSensor b s w).mdu = s.mdu ∧ (State.judgeSensor b s w).rou = s.rou ∧
    (State.judgeSensor b s w).tyu = s.tyu ∧ (State.judgeSensor b s w).aac = s.aac ∧
    (State.judgeSensor b s w).xpt = s.xpt ∧ (State.judgeSensor b s w).port = s.port := by
  generalize h : State.judgeSensor b s w = t
  unfold State.judgeSensor at h
  (repeat' split at h) <;> (subst h; simp)

@[simp] theorem State.takeDump_frame (s : State) (c : Channel) :
    (s.takeDump c).pending = s.pending ∧ (s.takeDump c).uptime = s.uptime ∧ (s.takeDump c).freeCount = s.freeCount ∧
    (s.takeDump c).pins = s.pins ∧ (s.takeDump c).store = s.store ∧ (s.takeDump c).load = s.load ∧
    (s.takeDump c).sfe = s.sfe ∧ (s.takeDump c).ldu = s.ldu ∧ (s.takeDump c).lfc = s.lfc ∧
    (s.takeDump c).wsu = s.wsu ∧ (s.takeDump c).rou = s.rou ∧ (s.takeDump c).tyu = s.tyu ∧
    (s.takeDump c).aac = s.aac ∧ (s.takeDump c).xpt = s.xpt ∧ (s.takeDump c).port = s.port ∧
    (s.takeDump c).atc = s.atc ∧ (s.takeDump c).health = s.health ∧ (s.takeDump c).jrw = s.jrw := by
  generalize h : s.takeDump c = t
  unfold State.takeDump at h
  try dsimp only at h
  subst h
  simp

@[simp] theorem State.judgePass_frame (s : State) (c : Channel) :
    (s.judgePass c).pending = s.pending ∧ (s.judgePass c).uptime = s.uptime ∧
    (s.judgePass c).freeCount = s.freeCount ∧ (s.judgePass c).pins = s.pins ∧ (s.judgePass c).store = s.store ∧
    (s.judgePass c).load = s.load ∧ (s.judgePass c).sfe = s.sfe ∧ (s.judgePass c).ldu = s.ldu ∧
    (s.judgePass c).lfc = s.lfc ∧ (s.judgePass c).wsu = s.wsu ∧ (s.judgePass c).rou = s.rou ∧
    (s.judgePass c).tyu = s.tyu ∧ (s.judgePass c).aac = s.aac ∧ (s.judgePass c).xpt = s.xpt ∧
    (s.judgePass c).port = s.port ∧ (s.judgePass c).atc = s.atc ∧ (s.judgePass c).health = s.health ∧
    (s.judgePass c).jrw = s.jrw := by
  generalize h : s.judgePass c = t
  unfold State.judgePass at h
  try dsimp only at h
  (repeat' split at h) <;> (subst h; simp)

@[simp] theorem State.judgeDump_frame (s : State) (c : Channel) :
    (s.judgeDump c).pending = s.pending ∧ (s.judgeDump c).uptime = s.uptime ∧
    (s.judgeDump c).freeCount = s.freeCount ∧ (s.judgeDump c).pins = s.pins ∧ (s.judgeDump c).store = s.store ∧
    (s.judgeDump c).load = s.load ∧ (s.judgeDump c).sfe = s.sfe ∧ (s.judgeDump c).ldu = s.ldu ∧
    (s.judgeDump c).lfc = s.lfc ∧ (s.judgeDump c).wsu = s.wsu ∧ (s.judgeDump c).mdu = s.mdu ∧
    (s.judgeDump c).rou = s.rou ∧ (s.judgeDump c).tyu = s.tyu ∧ (s.judgeDump c).aac = s.aac ∧
    (s.judgeDump c).xpt = s.xpt ∧ (s.judgeDump c).port = s.port ∧ (s.judgeDump c).atc = s.atc ∧
    (s.judgeDump c).health = s.health ∧ (s.judgeDump c).jrw = s.jrw ∧ (s.judgeDump c).mem = s.mem := by
  generalize h : s.judgeDump c = t
  unfold State.judgeDump at h
  try dsimp only at h
  (repeat' split at h) <;> (subst h; simp)

@[simp] theorem State.judgeHold_frame (s : State) (c : Channel) :
    (s.judgeHold c).pending = s.pending ∧ (s.judgeHold c).uptime = s.uptime ∧
    (s.judgeHold c).freeCount = s.freeCount ∧ (s.judgeHold c).pins = s.pins ∧ (s.judgeHold c).store = s.store ∧
    (s.judgeHold c).load = s.load ∧ (s.judgeHold c).sfe = s.sfe ∧ (s.judgeHold c).ldu = s.ldu ∧
    (s.judgeHold c).lfc = s.lfc ∧ (s.judgeHold c).wsu = s.wsu ∧ (s.judgeHold c).rou = s.rou ∧
    (s.judgeHold c).tyu = s.tyu ∧ (s.judgeHold c).aac = s.aac ∧ (s.judgeHold c).xpt = s.xpt ∧
    (s.judgeHold c).port = s.port ∧ (s.judgeHold c).atc = s.atc ∧ (s.judgeHold c).health = s.health ∧
    (s.judgeHold c).jrw = s.jrw := by
  generalize h : s.judgeHold c = t
  unfold State.judgeHold at h
  try dsimp only at h
  (repeat' split at h) <;> (subst h; simp)

@[simp] theorem State.judgeRebuild_frame (s : State) (c : Channel) :
    (s.judgeRebuild c).pending = s.pending ∧ (s.judgeRebuild c).uptime = s.uptime ∧
    (s.judgeRebuild c).freeCount = s.freeCount ∧ (s.judgeRebuild c).pins = s.pins ∧
    (s.judgeRebuild c).store = s.store ∧ (s.judgeRebuild c).load = s.load ∧ (s.judgeRebuild c).sfe = s.sfe ∧
    (s.judgeRebuild c).ldu = s.ldu ∧ (s.judgeRebuild c).lfc = s.lfc ∧ (s.judgeRebuild c).wsu = s.wsu ∧
    (s.judgeRebuild c).rou = s.rou ∧ (s.judgeRebuild c).tyu = s.tyu ∧ (s.judgeRebuild c).aac = s.aac ∧
    (s.judgeRebuild c).xpt = s.xpt ∧ (s.judgeRebuild c).port = s.port ∧ (s.judgeRebuild c).atc = s.atc ∧
    (s.judgeRebuild c).health = s.health ∧ (s.judgeRebuild c).jrw = s.jrw := by
  generalize h : s.judgeRebuild c = t
  unfold State.judgeRebuild at h
  try dsimp only at h
  (repeat' split at h) <;> (subst h; simp)

@[simp] theorem State.trackMinPd_frame (s : State) (c : Channel) :
    (s.trackMinPd c).pending = s.pending ∧ (s.trackMinPd c).uptime = s.uptime ∧
    (s.trackMinPd c).freeCount = s.freeCount ∧ (s.trackMinPd c).pins = s.pins ∧ (s.trackMinPd c).store = s.store ∧
    (s.trackMinPd c).load = s.load ∧ (s.trackMinPd c).sfe = s.sfe ∧ (s.trackMinPd c).ldu = s.ldu ∧
    (s.trackMinPd c).lfc = s.lfc ∧ (s.trackMinPd c).wsu = s.wsu ∧ (s.trackMinPd c).mdu = s.mdu ∧
    (s.trackMinPd c).rou = s.rou ∧ (s.trackMinPd c).tyu = s.tyu ∧ (s.trackMinPd c).aac = s.aac ∧
    (s.trackMinPd c).xpt = s.xpt ∧ (s.trackMinPd c).port = s.port ∧ (s.trackMinPd c).atc = s.atc ∧
    (s.trackMinPd c).health = s.health ∧ (s.trackMinPd c).jrw = s.jrw ∧ (s.trackMinPd c).mem = s.mem := by
  generalize h : s.trackMinPd c = t
  unfold State.trackMinPd at h
  try dsimp only at h
  (repeat' split at h) <;> (subst h; simp)

@[simp] theorem State.endEpisode_frame (s : State) (c : Channel) (r : EndReason) :
    (s.endEpisode c r).pending = s.pending ∧ (s.endEpisode c r).uptime = s.uptime ∧
    (s.endEpisode c r).freeCount = s.freeCount ∧ (s.endEpisode c r).pins = s.pins ∧
    (s.endEpisode c r).store = s.store ∧ (s.endEpisode c r).load = s.load ∧ (s.endEpisode c r).sfe = s.sfe ∧
    (s.endEpisode c r).ldu = s.ldu ∧ (s.endEpisode c r).lfc = s.lfc ∧ (s.endEpisode c r).wsu = s.wsu ∧
    (s.endEpisode c r).mdu = s.mdu ∧ (s.endEpisode c r).rou = s.rou ∧ (s.endEpisode c r).tyu = s.tyu ∧
    (s.endEpisode c r).aac = s.aac ∧ (s.endEpisode c r).xpt = s.xpt ∧ (s.endEpisode c r).port = s.port := by
  generalize h : s.endEpisode c r = t
  unfold State.endEpisode at h
  try dsimp only at h
  subst h
  simp

@[simp] theorem State.judgeState_frame (s : State) (c : Channel) :
    (s.judgeState c).pending = s.pending ∧ (s.judgeState c).uptime = s.uptime ∧
    (s.judgeState c).freeCount = s.freeCount ∧ (s.judgeState c).pins = s.pins ∧ (s.judgeState c).store = s.store ∧
    (s.judgeState c).load = s.load ∧ (s.judgeState c).sfe = s.sfe ∧ (s.judgeState c).ldu = s.ldu ∧
    (s.judgeState c).lfc = s.lfc ∧ (s.judgeState c).wsu = s.wsu ∧ (s.judgeState c).rou = s.rou ∧
    (s.judgeState c).tyu = s.tyu ∧ (s.judgeState c).aac = s.aac ∧ (s.judgeState c).xpt = s.xpt ∧
    (s.judgeState c).port = s.port := by
  generalize h : s.judgeState c = t
  unfold State.judgeState at h
  try dsimp only at h
  (repeat' split at h) <;> (subst h; simp)

@[simp] theorem State.judgeChannel_frame (s : State) (c : Channel) :
    (s.judgeChannel c).pending = s.pending ∧ (s.judgeChannel c).uptime = s.uptime ∧
    (s.judgeChannel c).freeCount = s.freeCount ∧ (s.judgeChannel c).pins = s.pins ∧
    (s.judgeChannel c).store = s.store ∧ (s.judgeChannel c).load = s.load ∧ (s.judgeChannel c).sfe = s.sfe ∧
    (s.judgeChannel c).ldu = s.ldu ∧ (s.judgeChannel c).lfc = s.lfc ∧ (s.judgeChannel c).wsu = s.wsu ∧
    (s.judgeChannel c).rou = s.rou ∧ (s.judgeChannel c).tyu = s.tyu ∧ (s.judgeChannel c).aac = s.aac ∧
    (s.judgeChannel c).xpt = s.xpt ∧ (s.judgeChannel c).port = s.port := by
  generalize h : s.judgeChannel c = t
  unfold State.judgeChannel at h
  try dsimp only at h
  (repeat' split at h) <;> (subst h; simp)

@[simp] theorem State.adoptSlip_frame (s : State) :
    (s.adoptSlip).pending = s.pending ∧ (s.adoptSlip).uptime = s.uptime ∧ (s.adoptSlip).freeCount = s.freeCount ∧
    (s.adoptSlip).pins = s.pins ∧ (s.adoptSlip).store = s.store ∧ (s.adoptSlip).load = s.load ∧
    (s.adoptSlip).sfe = s.sfe ∧ (s.adoptSlip).ldu = s.ldu ∧ (s.adoptSlip).lfc = s.lfc ∧ (s.adoptSlip).wsu = s.wsu ∧
    (s.adoptSlip).mdu = s.mdu ∧ (s.adoptSlip).rou = s.rou ∧ (s.adoptSlip).tyu = s.tyu ∧ (s.adoptSlip).aac = s.aac ∧
    (s.adoptSlip).port = s.port := by
  generalize h : s.adoptSlip = t
  unfold State.adoptSlip at h
  try dsimp only at h
  (repeat' split at h) <;> (subst h; simp)

@[simp] theorem State.windowCompletion_frame (s : State) :
    (s.windowCompletion).pending = s.pending ∧ (s.windowCompletion).uptime = s.uptime ∧
    (s.windowCompletion).freeCount = s.freeCount ∧ (s.windowCompletion).pins = s.pins ∧
    (s.windowCompletion).store = s.store ∧ (s.windowCompletion).load = s.load ∧ (s.windowCompletion).sfe = s.sfe ∧
    (s.windowCompletion).ldu = s.ldu ∧ (s.windowCompletion).lfc = s.lfc ∧ (s.windowCompletion).wsu = s.wsu ∧
    (s.windowCompletion).rou = s.rou ∧ (s.windowCompletion).tyu = s.tyu ∧ (s.windowCompletion).aac = s.aac ∧
    (s.windowCompletion).port = s.port := by
  simp [State.windowCompletion, Channel.all]

@[simp] theorem State.windowSteps_frame (s : State) (x : PerWheel Circuit) :
    (s.windowSteps x).pending = s.pending ∧ (s.windowSteps x).uptime = s.uptime ∧ (s.windowSteps x).pins = s.pins ∧
    (s.windowSteps x).store = s.store ∧ (s.windowSteps x).load = s.load ∧ (s.windowSteps x).sfe = s.sfe ∧
    (s.windowSteps x).ldu = s.ldu ∧ (s.windowSteps x).lfc = s.lfc ∧ (s.windowSteps x).scu = s.scu ∧
    (s.windowSteps x).mdu = s.mdu ∧ (s.windowSteps x).rou = s.rou ∧ (s.windowSteps x).tyu = s.tyu ∧
    (s.windowSteps x).aac = s.aac ∧ (s.windowSteps x).xpt = s.xpt ∧ (s.windowSteps x).port = s.port := by
  simp [State.windowSteps, State.eachWheel, Wheel.all]

@[simp] theorem State.windowExpired_frame (s : State) (x : PerWheel Circuit) :
    (s.windowExpired x).pending = s.pending ∧ (s.windowExpired x).uptime = s.uptime ∧
    (s.windowExpired x).pins = s.pins ∧ (s.windowExpired x).store = s.store ∧ (s.windowExpired x).load = s.load ∧
    (s.windowExpired x).sfe = s.sfe ∧ (s.windowExpired x).ldu = s.ldu ∧ (s.windowExpired x).lfc = s.lfc ∧
    (s.windowExpired x).rou = s.rou ∧ (s.windowExpired x).tyu = s.tyu ∧ (s.windowExpired x).aac = s.aac ∧
    (s.windowExpired x).port = s.port := by
  generalize h : s.windowExpired x = t
  unfold State.windowExpired at h
  try dsimp only at h
  (repeat' split at h) <;> (subst h; simp)

@[simp] theorem State.enterRebuild_frame (s : State) (c : Channel) :
    (s.enterRebuild c).pending = s.pending ∧ (s.enterRebuild c).uptime = s.uptime ∧
    (s.enterRebuild c).freeCount = s.freeCount ∧ (s.enterRebuild c).pins = s.pins ∧
    (s.enterRebuild c).store = s.store ∧ (s.enterRebuild c).load = s.load ∧ (s.enterRebuild c).sfe = s.sfe ∧
    (s.enterRebuild c).ldu = s.ldu ∧ (s.enterRebuild c).lfc = s.lfc ∧ (s.enterRebuild c).wsu = s.wsu ∧
    (s.enterRebuild c).mdu = s.mdu ∧ (s.enterRebuild c).rou = s.rou ∧ (s.enterRebuild c).tyu = s.tyu ∧
    (s.enterRebuild c).aac = s.aac ∧ (s.enterRebuild c).xpt = s.xpt ∧ (s.enterRebuild c).port = s.port ∧
    (s.enterRebuild c).atc = s.atc ∧ (s.enterRebuild c).health = s.health ∧ (s.enterRebuild c).jrw = s.jrw := by
  generalize h : s.enterRebuild c = t
  unfold State.enterRebuild at h
  try dsimp only at h
  subst h
  simp

@[simp] theorem State.holdTimerExpired_frame (s : State) (c : Channel) :
    (s.holdTimerExpired c).pending = s.pending ∧ (s.holdTimerExpired c).uptime = s.uptime ∧
    (s.holdTimerExpired c).freeCount = s.freeCount ∧ (s.holdTimerExpired c).pins = s.pins ∧
    (s.holdTimerExpired c).store = s.store ∧ (s.holdTimerExpired c).load = s.load ∧
    (s.holdTimerExpired c).sfe = s.sfe ∧ (s.holdTimerExpired c).ldu = s.ldu ∧ (s.holdTimerExpired c).lfc = s.lfc ∧
    (s.holdTimerExpired c).wsu = s.wsu ∧ (s.holdTimerExpired c).mdu = s.mdu ∧ (s.holdTimerExpired c).rou = s.rou ∧
    (s.holdTimerExpired c).tyu = s.tyu ∧ (s.holdTimerExpired c).aac = s.aac ∧ (s.holdTimerExpired c).xpt = s.xpt ∧
    (s.holdTimerExpired c).port = s.port ∧ (s.holdTimerExpired c).atc = s.atc ∧
    (s.holdTimerExpired c).health = s.health ∧ (s.holdTimerExpired c).jrw = s.jrw := by
  generalize h : s.holdTimerExpired c = t
  unfold State.holdTimerExpired at h
  try dsimp only at h
  (repeat' split at h) <;> (subst h; simp)

@[simp] theorem State.stepTimerExpired_frame (s : State) (c : Channel) :
    (s.stepTimerExpired c).pending = s.pending ∧ (s.stepTimerExpired c).uptime = s.uptime ∧
    (s.stepTimerExpired c).freeCount = s.freeCount ∧ (s.stepTimerExpired c).pins = s.pins ∧
    (s.stepTimerExpired c).store = s.store ∧ (s.stepTimerExpired c).load = s.load ∧
    (s.stepTimerExpired c).sfe = s.sfe ∧ (s.stepTimerExpired c).ldu = s.ldu ∧ (s.stepTimerExpired c).lfc = s.lfc ∧
    (s.stepTimerExpired c).wsu = s.wsu ∧ (s.stepTimerExpired c).mdu = s.mdu ∧ (s.stepTimerExpired c).rou = s.rou ∧
    (s.stepTimerExpired c).tyu = s.tyu ∧ (s.stepTimerExpired c).aac = s.aac ∧ (s.stepTimerExpired c).xpt = s.xpt ∧
    (s.stepTimerExpired c).port = s.port := by
  generalize h : s.stepTimerExpired c = t
  unfold State.stepTimerExpired at h
  try dsimp only at h
  (repeat' split at h) <;> (subst h; simp)

/-! ### What the rollover unit leaves alone -/

@[simp] theorem State.adoptRoll_frame (s : State) :
    (s.adoptRoll).pending = s.pending ∧ (s.adoptRoll).uptime = s.uptime ∧ (s.adoptRoll).freeCount = s.freeCount ∧
    (s.adoptRoll).pins = s.pins ∧ (s.adoptRoll).store = s.store ∧ (s.adoptRoll).load = s.load ∧
    (s.adoptRoll).sfe = s.sfe ∧ (s.adoptRoll).ldu = s.ldu ∧ (s.adoptRoll).lfc = s.lfc ∧ (s.adoptRoll).wsu = s.wsu ∧
    (s.adoptRoll).scu = s.scu ∧ (s.adoptRoll).mdu = s.mdu ∧ (s.adoptRoll).tyu = s.tyu ∧ (s.adoptRoll).aac = s.aac ∧
    (s.adoptRoll).port = s.port := by
  generalize h : s.adoptRoll = t
  unfold State.adoptRoll at h
  try dsimp only at h
  (repeat' split at h) <;> (subst h; simp)

@[simp] theorem State.changeStage_frame (s : State) (g : Stage) (k : StageCause) :
    (s.changeStage g k).pending = s.pending ∧ (s.changeStage g k).uptime = s.uptime ∧
    (s.changeStage g k).freeCount = s.freeCount ∧ (s.changeStage g k).pins = s.pins ∧
    (s.changeStage g k).store = s.store ∧ (s.changeStage g k).load = s.load ∧ (s.changeStage g k).sfe = s.sfe ∧
    (s.changeStage g k).ldu = s.ldu ∧ (s.changeStage g k).lfc = s.lfc ∧ (s.changeStage g k).wsu = s.wsu ∧
    (s.changeStage g k).scu = s.scu ∧ (s.changeStage g k).mdu = s.mdu ∧ (s.changeStage g k).tyu = s.tyu ∧
    (s.changeStage g k).aac = s.aac ∧ (s.changeStage g k).xpt = s.xpt ∧ (s.changeStage g k).port = s.port := by
  generalize h : s.changeStage g k = t
  unfold State.changeStage at h
  try dsimp only at h
  subst h
  simp

@[simp] theorem State.enterBrake_frame (s : State) (k : StageCause) :
    (s.enterBrake k).pending = s.pending ∧ (s.enterBrake k).uptime = s.uptime ∧
    (s.enterBrake k).freeCount = s.freeCount ∧ (s.enterBrake k).pins = s.pins ∧ (s.enterBrake k).store = s.store ∧
    (s.enterBrake k).load = s.load ∧ (s.enterBrake k).sfe = s.sfe ∧ (s.enterBrake k).ldu = s.ldu ∧
    (s.enterBrake k).wsu = s.wsu ∧ (s.enterBrake k).scu = s.scu ∧ (s.enterBrake k).mdu = s.mdu ∧
    (s.enterBrake k).tyu = s.tyu ∧ (s.enterBrake k).aac = s.aac ∧ (s.enterBrake k).xpt = s.xpt ∧
    (s.enterBrake k).port = s.port := by
  generalize h : s.enterBrake k = t
  unfold State.enterBrake at h
  try dsimp only at h
  subst h
  simp

@[simp] theorem State.followOuter_frame (s : State) :
    (s.followOuter).pending = s.pending ∧ (s.followOuter).uptime = s.uptime ∧
    (s.followOuter).freeCount = s.freeCount ∧ (s.followOuter).pins = s.pins ∧ (s.followOuter).store = s.store ∧
    (s.followOuter).load = s.load ∧ (s.followOuter).sfe = s.sfe ∧ (s.followOuter).ldu = s.ldu ∧
    (s.followOuter).lfc = s.lfc ∧ (s.followOuter).wsu = s.wsu ∧ (s.followOuter).scu = s.scu ∧
    (s.followOuter).mdu = s.mdu ∧ (s.followOuter).tyu = s.tyu ∧ (s.followOuter).aac = s.aac ∧
    (s.followOuter).xpt = s.xpt ∧ (s.followOuter).port = s.port ∧ (s.followOuter).atc = s.atc ∧
    (s.followOuter).health = s.health ∧ (s.followOuter).jrw = s.jrw ∧ (s.followOuter).mem = s.mem := by
  generalize h : s.followOuter = t
  unfold State.followOuter at h
  try dsimp only at h
  (repeat' split at h) <;> (subst h; simp)

@[simp] theorem State.judgeQuiet_frame (s : State) :
    (s.judgeQuiet).pending = s.pending ∧ (s.judgeQuiet).uptime = s.uptime ∧ (s.judgeQuiet).freeCount = s.freeCount ∧
    (s.judgeQuiet).pins = s.pins ∧ (s.judgeQuiet).store = s.store ∧ (s.judgeQuiet).load = s.load ∧
    (s.judgeQuiet).sfe = s.sfe ∧ (s.judgeQuiet).ldu = s.ldu ∧ (s.judgeQuiet).wsu = s.wsu ∧
    (s.judgeQuiet).scu = s.scu ∧ (s.judgeQuiet).mdu = s.mdu ∧ (s.judgeQuiet).tyu = s.tyu ∧
    (s.judgeQuiet).aac = s.aac ∧ (s.judgeQuiet).xpt = s.xpt ∧ (s.judgeQuiet).port = s.port := by
  generalize h : s.judgeQuiet = t
  unfold State.judgeQuiet at h
  try dsimp only at h
  (repeat' split at h) <;> (subst h; simp)

@[simp] theorem State.startTest_frame (s : State) :
    (s.startTest).pending = s.pending ∧ (s.startTest).uptime = s.uptime ∧ (s.startTest).pins = s.pins ∧
    (s.startTest).store = s.store ∧ (s.startTest).load = s.load ∧ (s.startTest).sfe = s.sfe ∧
    (s.startTest).ldu = s.ldu ∧ (s.startTest).lfc = s.lfc ∧ (s.startTest).wsu = s.wsu ∧ (s.startTest).scu = s.scu ∧
    (s.startTest).mdu = s.mdu ∧ (s.startTest).tyu = s.tyu ∧ (s.startTest).aac = s.aac ∧ (s.startTest).xpt = s.xpt ∧
    (s.startTest).port = s.port := by
  generalize h : s.startTest = t
  unfold State.startTest at h
  try dsimp only at h
  subst h
  simp

@[simp] theorem State.judgeTestStart_frame (s : State) :
    (s.judgeTestStart).pending = s.pending ∧ (s.judgeTestStart).uptime = s.uptime ∧ (s.judgeTestStart).pins = s.pins ∧
    (s.judgeTestStart).store = s.store ∧ (s.judgeTestStart).load = s.load ∧ (s.judgeTestStart).sfe = s.sfe ∧
    (s.judgeTestStart).ldu = s.ldu ∧ (s.judgeTestStart).lfc = s.lfc ∧ (s.judgeTestStart).wsu = s.wsu ∧
    (s.judgeTestStart).scu = s.scu ∧ (s.judgeTestStart).mdu = s.mdu ∧ (s.judgeTestStart).tyu = s.tyu ∧
    (s.judgeTestStart).xpt = s.xpt ∧ (s.judgeTestStart).port = s.port := by
  generalize h : s.judgeTestStart = t
  unfold State.judgeTestStart at h
  try dsimp only at h
  (repeat' split at h) <;> (subst h; simp)

@[simp] theorem State.judgeWatch_frame (s : State) :
    (s.judgeWatch).pending = s.pending ∧ (s.judgeWatch).uptime = s.uptime ∧ (s.judgeWatch).pins = s.pins ∧
    (s.judgeWatch).store = s.store ∧ (s.judgeWatch).load = s.load ∧ (s.judgeWatch).sfe = s.sfe ∧
    (s.judgeWatch).ldu = s.ldu ∧ (s.judgeWatch).wsu = s.wsu ∧ (s.judgeWatch).scu = s.scu ∧
    (s.judgeWatch).mdu = s.mdu ∧ (s.judgeWatch).tyu = s.tyu ∧ (s.judgeWatch).xpt = s.xpt ∧
    (s.judgeWatch).port = s.port := by
  generalize h : s.judgeWatch = t
  unfold State.judgeWatch at h
  try dsimp only at h
  (repeat' split at h) <;> (subst h; simp)

@[simp] theorem State.endTest_frame (s : State) (r : TestResult) (k : TestEnd) :
    (s.endTest r k).pending = s.pending ∧ (s.endTest r k).uptime = s.uptime ∧
    (s.endTest r k).freeCount = s.freeCount ∧ (s.endTest r k).pins = s.pins ∧ (s.endTest r k).store = s.store ∧
    (s.endTest r k).load = s.load ∧ (s.endTest r k).sfe = s.sfe ∧ (s.endTest r k).ldu = s.ldu ∧
    (s.endTest r k).lfc = s.lfc ∧ (s.endTest r k).wsu = s.wsu ∧ (s.endTest r k).scu = s.scu ∧
    (s.endTest r k).mdu = s.mdu ∧ (s.endTest r k).tyu = s.tyu ∧ (s.endTest r k).aac = s.aac ∧
    (s.endTest r k).xpt = s.xpt ∧ (s.endTest r k).port = s.port := by
  generalize h : s.endTest r k = t
  unfold State.endTest at h
  try dsimp only at h
  subst h
  simp

@[simp] theorem State.testToWatch_frame (s : State) (r : TestResult) (k : TestEnd) :
    (s.testToWatch r k).pending = s.pending ∧ (s.testToWatch r k).uptime = s.uptime ∧
    (s.testToWatch r k).freeCount = s.freeCount ∧ (s.testToWatch r k).pins = s.pins ∧
    (s.testToWatch r k).store = s.store ∧ (s.testToWatch r k).load = s.load ∧ (s.testToWatch r k).sfe = s.sfe ∧
    (s.testToWatch r k).ldu = s.ldu ∧ (s.testToWatch r k).lfc = s.lfc ∧ (s.testToWatch r k).wsu = s.wsu ∧
    (s.testToWatch r k).scu = s.scu ∧ (s.testToWatch r k).mdu = s.mdu ∧ (s.testToWatch r k).tyu = s.tyu ∧
    (s.testToWatch r k).aac = s.aac ∧ (s.testToWatch r k).xpt = s.xpt ∧ (s.testToWatch r k).port = s.port := by
  generalize h : s.testToWatch r k = t
  unfold State.testToWatch at h
  try dsimp only at h
  subst h
  simp

@[simp] theorem State.judgeTest_frame (s : State) :
    (s.judgeTest).pending = s.pending ∧ (s.judgeTest).uptime = s.uptime ∧ (s.judgeTest).freeCount = s.freeCount ∧
    (s.judgeTest).pins = s.pins ∧ (s.judgeTest).store = s.store ∧ (s.judgeTest).load = s.load ∧
    (s.judgeTest).sfe = s.sfe ∧ (s.judgeTest).ldu = s.ldu ∧ (s.judgeTest).wsu = s.wsu ∧ (s.judgeTest).scu = s.scu ∧
    (s.judgeTest).mdu = s.mdu ∧ (s.judgeTest).tyu = s.tyu ∧ (s.judgeTest).aac = s.aac ∧ (s.judgeTest).xpt = s.xpt ∧
    (s.judgeTest).port = s.port := by
  generalize h : s.judgeTest = t
  unfold State.judgeTest at h
  try dsimp only at h
  (repeat' split at h) <;> (subst h; simp)

@[simp] theorem State.judgeBrake_frame (s : State) :
    (s.judgeBrake).pending = s.pending ∧ (s.judgeBrake).uptime = s.uptime ∧ (s.judgeBrake).freeCount = s.freeCount ∧
    (s.judgeBrake).pins = s.pins ∧ (s.judgeBrake).store = s.store ∧ (s.judgeBrake).load = s.load ∧
    (s.judgeBrake).sfe = s.sfe ∧ (s.judgeBrake).ldu = s.ldu ∧ (s.judgeBrake).lfc = s.lfc ∧
    (s.judgeBrake).wsu = s.wsu ∧ (s.judgeBrake).scu = s.scu ∧ (s.judgeBrake).mdu = s.mdu ∧
    (s.judgeBrake).tyu = s.tyu ∧ (s.judgeBrake).aac = s.aac ∧ (s.judgeBrake).xpt = s.xpt ∧
    (s.judgeBrake).port = s.port := by
  generalize h : s.judgeBrake = t
  unfold State.judgeBrake at h
  try dsimp only at h
  (repeat' split at h) <;> (subst h; simp)

@[simp] theorem State.judgeHoldoff_frame (s : State) :
    (s.judgeHoldoff).pending = s.pending ∧ (s.judgeHoldoff).uptime = s.uptime ∧
    (s.judgeHoldoff).freeCount = s.freeCount ∧ (s.judgeHoldoff).pins = s.pins ∧ (s.judgeHoldoff).store = s.store ∧
    (s.judgeHoldoff).load = s.load ∧ (s.judgeHoldoff).sfe = s.sfe ∧ (s.judgeHoldoff).ldu = s.ldu ∧
    (s.judgeHoldoff).wsu = s.wsu ∧ (s.judgeHoldoff).scu = s.scu ∧ (s.judgeHoldoff).mdu = s.mdu ∧
    (s.judgeHoldoff).tyu = s.tyu ∧ (s.judgeHoldoff).aac = s.aac ∧ (s.judgeHoldoff).xpt = s.xpt ∧
    (s.judgeHoldoff).port = s.port := by
  generalize h : s.judgeHoldoff = t
  unfold State.judgeHoldoff at h
  try dsimp only at h
  (repeat' split at h) <;> (subst h; simp)

@[simp] theorem State.judgeStage_frame (s : State) :
    (s.judgeStage).pending = s.pending ∧ (s.judgeStage).uptime = s.uptime ∧ (s.judgeStage).pins = s.pins ∧
    (s.judgeStage).store = s.store ∧ (s.judgeStage).load = s.load ∧ (s.judgeStage).sfe = s.sfe ∧
    (s.judgeStage).ldu = s.ldu ∧ (s.judgeStage).wsu = s.wsu ∧ (s.judgeStage).scu = s.scu ∧
    (s.judgeStage).mdu = s.mdu ∧ (s.judgeStage).tyu = s.tyu ∧ (s.judgeStage).xpt = s.xpt ∧
    (s.judgeStage).port = s.port := by
  generalize h : s.judgeStage = t
  unfold State.judgeStage at h
  try dsimp only at h
  (repeat' split at h) <;> (subst h; simp)

@[simp] theorem State.judgeUnavailable_frame (s : State) :
    (s.judgeUnavailable).pending = s.pending ∧ (s.judgeUnavailable).uptime = s.uptime ∧
    (s.judgeUnavailable).freeCount = s.freeCount ∧ (s.judgeUnavailable).pins = s.pins ∧
    (s.judgeUnavailable).store = s.store ∧ (s.judgeUnavailable).load = s.load ∧ (s.judgeUnavailable).sfe = s.sfe ∧
    (s.judgeUnavailable).ldu = s.ldu ∧ (s.judgeUnavailable).lfc = s.lfc ∧ (s.judgeUnavailable).wsu = s.wsu ∧
    (s.judgeUnavailable).scu = s.scu ∧ (s.judgeUnavailable).mdu = s.mdu ∧ (s.judgeUnavailable).tyu = s.tyu ∧
    (s.judgeUnavailable).aac = s.aac ∧ (s.judgeUnavailable).xpt = s.xpt ∧ (s.judgeUnavailable).port = s.port := by
  generalize h : s.judgeUnavailable = t
  unfold State.judgeUnavailable at h
  try dsimp only at h
  (repeat' split at h) <;> (subst h; simp)

@[simp] theorem State.judgeRollover_frame (s : State) :
    (s.judgeRollover).pending = s.pending ∧ (s.judgeRollover).uptime = s.uptime ∧ (s.judgeRollover).pins = s.pins ∧
    (s.judgeRollover).store = s.store ∧ (s.judgeRollover).load = s.load ∧ (s.judgeRollover).sfe = s.sfe ∧
    (s.judgeRollover).ldu = s.ldu ∧ (s.judgeRollover).wsu = s.wsu ∧ (s.judgeRollover).scu = s.scu ∧
    (s.judgeRollover).mdu = s.mdu ∧ (s.judgeRollover).tyu = s.tyu ∧ (s.judgeRollover).xpt = s.xpt ∧
    (s.judgeRollover).port = s.port := by
  generalize h : s.judgeRollover = t
  unfold State.judgeRollover at h
  try dsimp only at h
  (repeat' split at h) <;> (subst h; simp)

@[simp] theorem State.evaluate_frame (s : State) :
    (s.evaluate).pending = s.pending ∧ (s.evaluate).uptime = s.uptime ∧ (s.evaluate).pins = s.pins ∧
    (s.evaluate).store = s.store ∧ (s.evaluate).load = s.load ∧ (s.evaluate).sfe = s.sfe ∧ (s.evaluate).ldu = s.ldu ∧
    (s.evaluate).wsu = s.wsu ∧ (s.evaluate).scu = s.scu ∧ (s.evaluate).mdu = s.mdu ∧ (s.evaluate).tyu = s.tyu ∧
    (s.evaluate).port = s.port := by
  generalize h : s.evaluate = t
  unfold State.evaluate at h
  try dsimp only at h
  (repeat' split at h) <;> (subst h; simp)

@[simp] theorem State.evaluationExpired_frame (s : State) :
    (s.evaluationExpired).pending = s.pending ∧ (s.evaluationExpired).uptime = s.uptime ∧
    (s.evaluationExpired).pins = s.pins ∧ (s.evaluationExpired).store = s.store ∧
    (s.evaluationExpired).load = s.load ∧ (s.evaluationExpired).sfe = s.sfe ∧ (s.evaluationExpired).ldu = s.ldu ∧
    (s.evaluationExpired).wsu = s.wsu ∧ (s.evaluationExpired).scu = s.scu ∧ (s.evaluationExpired).mdu = s.mdu ∧
    (s.evaluationExpired).tyu = s.tyu ∧ (s.evaluationExpired).port = s.port := by
  generalize h : s.evaluationExpired = t
  unfold State.evaluationExpired at h
  try dsimp only at h
  (repeat' split at h) <;> (subst h; simp)

/-! ### What the tyre unit leaves alone -/

@[simp] theorem State.adoptTyre_frame (s : State) :
    (s.adoptTyre).pending = s.pending ∧ (s.adoptTyre).uptime = s.uptime ∧ (s.adoptTyre).freeCount = s.freeCount ∧
    (s.adoptTyre).pins = s.pins ∧ (s.adoptTyre).store = s.store ∧ (s.adoptTyre).load = s.load ∧
    (s.adoptTyre).sfe = s.sfe ∧ (s.adoptTyre).ldu = s.ldu ∧ (s.adoptTyre).lfc = s.lfc ∧ (s.adoptTyre).wsu = s.wsu ∧
    (s.adoptTyre).scu = s.scu ∧ (s.adoptTyre).mdu = s.mdu ∧ (s.adoptTyre).rou = s.rou ∧ (s.adoptTyre).aac = s.aac ∧
    (s.adoptTyre).port = s.port := by
  generalize h : s.adoptTyre = t
  unfold State.adoptTyre at h
  try dsimp only at h
  (repeat' split at h) <;> (subst h; simp)

@[simp] theorem State.offerTyre_frame (s : State) :
    (s.offerTyre).pending = s.pending ∧ (s.offerTyre).uptime = s.uptime ∧ (s.offerTyre).freeCount = s.freeCount ∧
    (s.offerTyre).pins = s.pins ∧ (s.offerTyre).store = s.store ∧ (s.offerTyre).load = s.load ∧
    (s.offerTyre).sfe = s.sfe ∧ (s.offerTyre).ldu = s.ldu ∧ (s.offerTyre).lfc = s.lfc ∧ (s.offerTyre).wsu = s.wsu ∧
    (s.offerTyre).scu = s.scu ∧ (s.offerTyre).mdu = s.mdu ∧ (s.offerTyre).rou = s.rou ∧ (s.offerTyre).aac = s.aac ∧
    (s.offerTyre).port = s.port := by
  generalize h : s.offerTyre = t
  unfold State.offerTyre at h
  try dsimp only at h
  (repeat' split at h) <;> (subst h; simp)

@[simp] theorem State.telegramEnded_frame (s : State) :
    (s.telegramEnded).pending = s.pending ∧ (s.telegramEnded).uptime = s.uptime ∧
    (s.telegramEnded).freeCount = s.freeCount ∧ (s.telegramEnded).pins = s.pins ∧ (s.telegramEnded).store = s.store ∧
    (s.telegramEnded).load = s.load ∧ (s.telegramEnded).sfe = s.sfe ∧ (s.telegramEnded).ldu = s.ldu ∧
    (s.telegramEnded).lfc = s.lfc ∧ (s.telegramEnded).wsu = s.wsu ∧ (s.telegramEnded).scu = s.scu ∧
    (s.telegramEnded).mdu = s.mdu ∧ (s.telegramEnded).rou = s.rou ∧ (s.telegramEnded).aac = s.aac ∧
    (s.telegramEnded).port = s.port := by
  generalize h : s.telegramEnded = t
  unfold State.telegramEnded at h
  try dsimp only at h
  subst h
  simp

@[simp] theorem State.discardTelegram_frame (s : State) (e : TelegramError) :
    (s.discardTelegram e).pending = s.pending ∧ (s.discardTelegram e).uptime = s.uptime ∧
    (s.discardTelegram e).freeCount = s.freeCount ∧ (s.discardTelegram e).pins = s.pins ∧
    (s.discardTelegram e).store = s.store ∧ (s.discardTelegram e).load = s.load ∧ (s.discardTelegram e).sfe = s.sfe ∧
    (s.discardTelegram e).ldu = s.ldu ∧ (s.discardTelegram e).lfc = s.lfc ∧ (s.discardTelegram e).wsu = s.wsu ∧
    (s.discardTelegram e).scu = s.scu ∧ (s.discardTelegram e).mdu = s.mdu ∧ (s.discardTelegram e).rou = s.rou ∧
    (s.discardTelegram e).aac = s.aac ∧ (s.discardTelegram e).port = s.port := by
  generalize h : s.discardTelegram e = t
  unfold State.discardTelegram at h
  try dsimp only at h
  subst h
  simp

@[simp] theorem State.reportTyre_frame (s : State) (k : Nat) (o : TyreState) (x : Slot) :
    (s.reportTyre k o x).pending = s.pending ∧ (s.reportTyre k o x).uptime = s.uptime ∧
    (s.reportTyre k o x).freeCount = s.freeCount ∧ (s.reportTyre k o x).pins = s.pins ∧
    (s.reportTyre k o x).store = s.store ∧ (s.reportTyre k o x).load = s.load ∧ (s.reportTyre k o x).sfe = s.sfe ∧
    (s.reportTyre k o x).ldu = s.ldu ∧ (s.reportTyre k o x).lfc = s.lfc ∧ (s.reportTyre k o x).wsu = s.wsu ∧
    (s.reportTyre k o x).scu = s.scu ∧ (s.reportTyre k o x).mdu = s.mdu ∧ (s.reportTyre k o x).rou = s.rou ∧
    (s.reportTyre k o x).tyu = s.tyu ∧ (s.reportTyre k o x).aac = s.aac ∧ (s.reportTyre k o x).xpt = s.xpt ∧
    (s.reportTyre k o x).port = s.port := by
  generalize h : s.reportTyre k o x = t
  unfold State.reportTyre at h
  try dsimp only at h
  (repeat' split at h) <;> (subst h; simp)

@[simp] theorem State.deliver_frame (s : State) (k : Nat) (b : List Byte) :
    (s.deliver k b).pending = s.pending ∧ (s.deliver k b).uptime = s.uptime ∧
    (s.deliver k b).freeCount = s.freeCount ∧ (s.deliver k b).pins = s.pins ∧ (s.deliver k b).store = s.store ∧
    (s.deliver k b).load = s.load ∧ (s.deliver k b).sfe = s.sfe ∧ (s.deliver k b).ldu = s.ldu ∧
    (s.deliver k b).lfc = s.lfc ∧ (s.deliver k b).wsu = s.wsu ∧ (s.deliver k b).scu = s.scu ∧
    (s.deliver k b).mdu = s.mdu ∧ (s.deliver k b).rou = s.rou ∧ (s.deliver k b).aac = s.aac ∧
    (s.deliver k b).xpt = s.xpt ∧ (s.deliver k b).port = s.port := by
  generalize h : s.deliver k b = t
  unfold State.deliver at h
  try dsimp only at h
  subst h
  simp

@[simp] theorem State.acceptTelegram_frame (s : State) (b : List Byte) :
    (s.acceptTelegram b).pending = s.pending ∧ (s.acceptTelegram b).uptime = s.uptime ∧
    (s.acceptTelegram b).freeCount = s.freeCount ∧ (s.acceptTelegram b).pins = s.pins ∧
    (s.acceptTelegram b).store = s.store ∧ (s.acceptTelegram b).load = s.load ∧ (s.acceptTelegram b).sfe = s.sfe ∧
    (s.acceptTelegram b).ldu = s.ldu ∧ (s.acceptTelegram b).lfc = s.lfc ∧ (s.acceptTelegram b).wsu = s.wsu ∧
    (s.acceptTelegram b).scu = s.scu ∧ (s.acceptTelegram b).mdu = s.mdu ∧ (s.acceptTelegram b).rou = s.rou ∧
    (s.acceptTelegram b).aac = s.aac ∧ (s.acceptTelegram b).port = s.port := by
  generalize h : s.acceptTelegram b = t
  unfold State.acceptTelegram at h
  try dsimp only at h
  (repeat' split at h) <;> (subst h; simp)

@[simp] theorem State.telegramComplete_frame (s : State) (b : List Byte) :
    (s.telegramComplete b).pending = s.pending ∧ (s.telegramComplete b).uptime = s.uptime ∧
    (s.telegramComplete b).freeCount = s.freeCount ∧ (s.telegramComplete b).pins = s.pins ∧
    (s.telegramComplete b).store = s.store ∧ (s.telegramComplete b).load = s.load ∧
    (s.telegramComplete b).sfe = s.sfe ∧ (s.telegramComplete b).ldu = s.ldu ∧ (s.telegramComplete b).lfc = s.lfc ∧
    (s.telegramComplete b).wsu = s.wsu ∧ (s.telegramComplete b).scu = s.scu ∧ (s.telegramComplete b).mdu = s.mdu ∧
    (s.telegramComplete b).rou = s.rou ∧ (s.telegramComplete b).aac = s.aac ∧ (s.telegramComplete b).port = s.port := by
  generalize h : s.telegramComplete b = t
  unfold State.telegramComplete at h
  try dsimp only at h
  (repeat' split at h) <;> (subst h; simp)

@[simp] theorem State.placeCharacter_frame (s : State) (b : Byte) :
    (s.placeCharacter b).pending = s.pending ∧ (s.placeCharacter b).uptime = s.uptime ∧
    (s.placeCharacter b).freeCount = s.freeCount ∧ (s.placeCharacter b).pins = s.pins ∧
    (s.placeCharacter b).store = s.store ∧ (s.placeCharacter b).load = s.load ∧ (s.placeCharacter b).sfe = s.sfe ∧
    (s.placeCharacter b).ldu = s.ldu ∧ (s.placeCharacter b).lfc = s.lfc ∧ (s.placeCharacter b).wsu = s.wsu ∧
    (s.placeCharacter b).scu = s.scu ∧ (s.placeCharacter b).mdu = s.mdu ∧ (s.placeCharacter b).rou = s.rou ∧
    (s.placeCharacter b).aac = s.aac ∧ (s.placeCharacter b).port = s.port := by
  generalize h : s.placeCharacter b = t
  unfold State.placeCharacter at h
  try dsimp only at h
  (repeat' split at h) <;> (subst h; simp)

@[simp] theorem State.characterInOpen_frame (s : State) (b : Byte) (p : Bool) (q : Bool) :
    (s.characterInOpen b p q).pending = s.pending ∧ (s.characterInOpen b p q).uptime = s.uptime ∧
    (s.characterInOpen b p q).freeCount = s.freeCount ∧ (s.characterInOpen b p q).pins = s.pins ∧
    (s.characterInOpen b p q).store = s.store ∧ (s.characterInOpen b p q).load = s.load ∧
    (s.characterInOpen b p q).sfe = s.sfe ∧ (s.characterInOpen b p q).ldu = s.ldu ∧
    (s.characterInOpen b p q).lfc = s.lfc ∧ (s.characterInOpen b p q).wsu = s.wsu ∧
    (s.characterInOpen b p q).scu = s.scu ∧ (s.characterInOpen b p q).mdu = s.mdu ∧
    (s.characterInOpen b p q).rou = s.rou ∧ (s.characterInOpen b p q).aac = s.aac ∧
    (s.characterInOpen b p q).port = s.port := by
  generalize h : s.characterInOpen b p q = t
  unfold State.characterInOpen at h
  try dsimp only at h
  (repeat' split at h) <;> (subst h; simp)

@[simp] theorem State.characterInIdle_frame (s : State) (b : Byte) (p : Bool) (q : Bool) :
    (s.characterInIdle b p q).pending = s.pending ∧ (s.characterInIdle b p q).uptime = s.uptime ∧
    (s.characterInIdle b p q).freeCount = s.freeCount ∧ (s.characterInIdle b p q).pins = s.pins ∧
    (s.characterInIdle b p q).store = s.store ∧ (s.characterInIdle b p q).load = s.load ∧
    (s.characterInIdle b p q).sfe = s.sfe ∧ (s.characterInIdle b p q).ldu = s.ldu ∧
    (s.characterInIdle b p q).lfc = s.lfc ∧ (s.characterInIdle b p q).wsu = s.wsu ∧
    (s.characterInIdle b p q).scu = s.scu ∧ (s.characterInIdle b p q).mdu = s.mdu ∧
    (s.characterInIdle b p q).rou = s.rou ∧ (s.characterInIdle b p q).aac = s.aac ∧
    (s.characterInIdle b p q).xpt = s.xpt ∧ (s.characterInIdle b p q).port = s.port ∧
    (s.characterInIdle b p q).atc = s.atc ∧ (s.characterInIdle b p q).health = s.health ∧
    (s.characterInIdle b p q).jrw = s.jrw ∧ (s.characterInIdle b p q).mem = s.mem := by
  generalize h : s.characterInIdle b p q = t
  unfold State.characterInIdle at h
  try dsimp only at h
  (repeat' split at h) <;> (subst h; simp)

@[simp] theorem State.characterArrived_frame (s : State) (b : Byte) (p : Bool) (q : Bool) :
    (s.characterArrived b p q).pending = s.pending ∧ (s.characterArrived b p q).uptime = s.uptime ∧
    (s.characterArrived b p q).freeCount = s.freeCount ∧ (s.characterArrived b p q).pins = s.pins ∧
    (s.characterArrived b p q).store = s.store ∧ (s.characterArrived b p q).load = s.load ∧
    (s.characterArrived b p q).sfe = s.sfe ∧ (s.characterArrived b p q).ldu = s.ldu ∧
    (s.characterArrived b p q).lfc = s.lfc ∧ (s.characterArrived b p q).wsu = s.wsu ∧
    (s.characterArrived b p q).scu = s.scu ∧ (s.characterArrived b p q).mdu = s.mdu ∧
    (s.characterArrived b p q).rou = s.rou ∧ (s.characterArrived b p q).aac = s.aac ∧
    (s.characterArrived b p q).port = s.port := by
  generalize h : s.characterArrived b p q = t
  unfold State.characterArrived at h
  try dsimp only at h
  (repeat' split at h) <;> (subst h; simp)

@[simp] theorem State.gapTimerExpired_frame (s : State) :
    (s.gapTimerExpired).pending = s.pending ∧ (s.gapTimerExpired).uptime = s.uptime ∧
    (s.gapTimerExpired).freeCount = s.freeCount ∧ (s.gapTimerExpired).pins = s.pins ∧
    (s.gapTimerExpired).store = s.store ∧ (s.gapTimerExpired).load = s.load ∧ (s.gapTimerExpired).sfe = s.sfe ∧
    (s.gapTimerExpired).ldu = s.ldu ∧ (s.gapTimerExpired).lfc = s.lfc ∧ (s.gapTimerExpired).wsu = s.wsu ∧
    (s.gapTimerExpired).scu = s.scu ∧ (s.gapTimerExpired).mdu = s.mdu ∧ (s.gapTimerExpired).rou = s.rou ∧
    (s.gapTimerExpired).aac = s.aac ∧ (s.gapTimerExpired).port = s.port := by
  generalize h : s.gapTimerExpired = t
  unfold State.gapTimerExpired at h
  try dsimp only at h
  (repeat' split at h) <;> (subst h; simp)

@[simp] theorem State.carrierLost_frame (s : State) :
    (s.carrierLost).pending = s.pending ∧ (s.carrierLost).uptime = s.uptime ∧
    (s.carrierLost).freeCount = s.freeCount ∧ (s.carrierLost).store = s.store ∧ (s.carrierLost).load = s.load ∧
    (s.carrierLost).sfe = s.sfe ∧ (s.carrierLost).ldu = s.ldu ∧ (s.carrierLost).lfc = s.lfc ∧
    (s.carrierLost).wsu = s.wsu ∧ (s.carrierLost).scu = s.scu ∧ (s.carrierLost).mdu = s.mdu ∧
    (s.carrierLost).rou = s.rou ∧ (s.carrierLost).aac = s.aac ∧ (s.carrierLost).port = s.port := by
  generalize h : s.carrierLost = t
  unfold State.carrierLost at h
  try dsimp only at h
  (repeat' split at h) <;> (subst h; simp)

@[simp] theorem State.scanSlot_frame (s : State) (k : Nat) :
    (s.scanSlot k).pending = s.pending ∧ (s.scanSlot k).uptime = s.uptime ∧ (s.scanSlot k).freeCount = s.freeCount ∧
    (s.scanSlot k).pins = s.pins ∧ (s.scanSlot k).store = s.store ∧ (s.scanSlot k).load = s.load ∧
    (s.scanSlot k).sfe = s.sfe ∧ (s.scanSlot k).ldu = s.ldu ∧ (s.scanSlot k).lfc = s.lfc ∧
    (s.scanSlot k).wsu = s.wsu ∧ (s.scanSlot k).scu = s.scu ∧ (s.scanSlot k).mdu = s.mdu ∧
    (s.scanSlot k).rou = s.rou ∧ (s.scanSlot k).aac = s.aac ∧ (s.scanSlot k).xpt = s.xpt ∧
    (s.scanSlot k).port = s.port := by
  generalize h : s.scanSlot k = t
  unfold State.scanSlot at h
  try dsimp only at h
  (repeat' split at h) <;> (subst h; simp)

theorem foldScan_frame : ∀ (l : List Nat) (s : State),
    (l.foldl State.scanSlot s).pending = s.pending ∧ (l.foldl State.scanSlot s).uptime = s.uptime ∧
    (l.foldl State.scanSlot s).freeCount = s.freeCount ∧ (l.foldl State.scanSlot s).pins = s.pins ∧
    (l.foldl State.scanSlot s).store = s.store ∧ (l.foldl State.scanSlot s).load = s.load ∧
    (l.foldl State.scanSlot s).sfe = s.sfe ∧ (l.foldl State.scanSlot s).ldu = s.ldu ∧
    (l.foldl State.scanSlot s).lfc = s.lfc ∧ (l.foldl State.scanSlot s).wsu = s.wsu ∧
    (l.foldl State.scanSlot s).scu = s.scu ∧ (l.foldl State.scanSlot s).mdu = s.mdu ∧
    (l.foldl State.scanSlot s).rou = s.rou ∧ (l.foldl State.scanSlot s).aac = s.aac ∧
    (l.foldl State.scanSlot s).xpt = s.xpt ∧ (l.foldl State.scanSlot s).port = s.port := by
  intro l
  induction l with
  | nil => intro s; simp
  | cons k xs ih =>
    intro s
    have h := ih (s.scanSlot k)
    simp_all

@[simp] theorem State.scanSlots_frame (s : State) :
    (s.scanSlots).pending = s.pending ∧ (s.scanSlots).uptime = s.uptime ∧ (s.scanSlots).freeCount = s.freeCount ∧
    (s.scanSlots).pins = s.pins ∧ (s.scanSlots).store = s.store ∧ (s.scanSlots).load = s.load ∧
    (s.scanSlots).sfe = s.sfe ∧ (s.scanSlots).ldu = s.ldu ∧ (s.scanSlots).lfc = s.lfc ∧ (s.scanSlots).wsu = s.wsu ∧
    (s.scanSlots).scu = s.scu ∧ (s.scanSlots).mdu = s.mdu ∧ (s.scanSlots).rou = s.rou ∧ (s.scanSlots).aac = s.aac ∧
    (s.scanSlots).xpt = s.xpt ∧ (s.scanSlots).port = s.port := by
  have h2 := foldScan_frame (List.range s.tyu.slots.length) s
  generalize h : s.scanSlots = t
  unfold State.scanSlots at h
  dsimp only at h
  split at h <;> (subst h; simp_all)

@[simp] theorem State.scanExpired_frame (s : State) :
    (s.scanExpired).pending = s.pending ∧ (s.scanExpired).uptime = s.uptime ∧
    (s.scanExpired).freeCount = s.freeCount ∧ (s.scanExpired).pins = s.pins ∧ (s.scanExpired).store = s.store ∧
    (s.scanExpired).load = s.load ∧ (s.scanExpired).sfe = s.sfe ∧ (s.scanExpired).ldu = s.ldu ∧
    (s.scanExpired).lfc = s.lfc ∧ (s.scanExpired).wsu = s.wsu ∧ (s.scanExpired).scu = s.scu ∧
    (s.scanExpired).mdu = s.mdu ∧ (s.scanExpired).rou = s.rou ∧ (s.scanExpired).aac = s.aac ∧
    (s.scanExpired).xpt = s.xpt ∧ (s.scanExpired).port = s.port := by
  generalize h : s.scanExpired = t
  unfold State.scanExpired at h
  try dsimp only at h
  (repeat' split at h) <;> (subst h; simp)

/-! ### What the sensor front end, the port and its registers and the load completion leave alone -/

@[simp] theorem State.updateAf_frame (s : State) :
    (s.updateAf).pending = s.pending ∧ (s.updateAf).uptime = s.uptime ∧ (s.updateAf).freeCount = s.freeCount ∧
    (s.updateAf).pins = s.pins ∧ (s.updateAf).store = s.store ∧ (s.updateAf).load = s.load ∧
    (s.updateAf).ldu = s.ldu ∧ (s.updateAf).lfc = s.lfc ∧ (s.updateAf).wsu = s.wsu ∧ (s.updateAf).scu = s.scu ∧
    (s.updateAf).mdu = s.mdu ∧ (s.updateAf).tyu = s.tyu ∧ (s.updateAf).aac = s.aac ∧ (s.updateAf).xpt = s.xpt ∧
    (s.updateAf).port = s.port ∧ (s.updateAf).atc = s.atc ∧ (s.updateAf).health = s.health ∧
    (s.updateAf).jrw = s.jrw ∧ (s.updateAf).mem = s.mem := by
  generalize h : s.updateAf = t
  unfold State.updateAf at h
  try dsimp only at h
  (repeat' split at h) <;> (subst h; simp)

@[simp] theorem State.sampleReaches_frame (s : State) (i : Input) :
    (s.sampleReaches i).pending = s.pending ∧ (s.sampleReaches i).uptime = s.uptime ∧
    (s.sampleReaches i).freeCount = s.freeCount ∧ (s.sampleReaches i).pins = s.pins ∧
    (s.sampleReaches i).store = s.store ∧ (s.sampleReaches i).load = s.load ∧ (s.sampleReaches i).ldu = s.ldu ∧
    (s.sampleReaches i).lfc = s.lfc ∧ (s.sampleReaches i).wsu = s.wsu ∧ (s.sampleReaches i).scu = s.scu ∧
    (s.sampleReaches i).mdu = s.mdu ∧ (s.sampleReaches i).tyu = s.tyu ∧ (s.sampleReaches i).port = s.port := by
  generalize h : s.sampleReaches i = t
  unfold State.sampleReaches at h
  try dsimp only at h
  (repeat' split at h) <;> (subst h; simp)

@[simp] theorem State.sampleCompleted_frame (s : State) (i : Input) (n : BitVec 12) :
    (s.sampleCompleted i n).pending = s.pending ∧ (s.sampleCompleted i n).uptime = s.uptime ∧
    (s.sampleCompleted i n).freeCount = s.freeCount ∧ (s.sampleCompleted i n).pins = s.pins ∧
    (s.sampleCompleted i n).store = s.store ∧ (s.sampleCompleted i n).load = s.load ∧
    (s.sampleCompleted i n).ldu = s.ldu ∧ (s.sampleCompleted i n).lfc = s.lfc ∧ (s.sampleCompleted i n).wsu = s.wsu ∧
    (s.sampleCompleted i n).scu = s.scu ∧ (s.sampleCompleted i n).mdu = s.mdu ∧ (s.sampleCompleted i n).tyu = s.tyu ∧
    (s.sampleCompleted i n).port = s.port := by
  generalize h : s.sampleCompleted i n = t
  unfold State.sampleCompleted at h
  try dsimp only at h
  (repeat' split at h) <;> (subst h; simp)

@[simp] theorem State.faultReaches_frame (s : State) (i : Input) :
    (s.faultReaches i).pending = s.pending ∧ (s.faultReaches i).uptime = s.uptime ∧
    (s.faultReaches i).freeCount = s.freeCount ∧ (s.faultReaches i).pins = s.pins ∧
    (s.faultReaches i).store = s.store ∧ (s.faultReaches i).load = s.load ∧ (s.faultReaches i).sfe = s.sfe ∧
    (s.faultReaches i).ldu = s.ldu ∧ (s.faultReaches i).lfc = s.lfc ∧ (s.faultReaches i).wsu = s.wsu ∧
    (s.faultReaches i).tyu = s.tyu ∧ (s.faultReaches i).aac = s.aac ∧ (s.faultReaches i).xpt = s.xpt ∧
    (s.faultReaches i).port = s.port := by
  generalize h : s.faultReaches i = t
  unfold State.faultReaches at h
  try dsimp only at h
  (repeat' split at h) <;> (subst h; simp)

@[simp] theorem State.declareFault_frame (s : State) (i : Input) :
    (s.declareFault i).pending = s.pending ∧ (s.declareFault i).uptime = s.uptime ∧
    (s.declareFault i).freeCount = s.freeCount ∧ (s.declareFault i).pins = s.pins ∧
    (s.declareFault i).store = s.store ∧ (s.declareFault i).load = s.load ∧ (s.declareFault i).ldu = s.ldu ∧
    (s.declareFault i).lfc = s.lfc ∧ (s.declareFault i).wsu = s.wsu ∧ (s.declareFault i).tyu = s.tyu ∧
    (s.declareFault i).aac = s.aac ∧ (s.declareFault i).xpt = s.xpt ∧ (s.declareFault i).port = s.port := by
  generalize h : s.declareFault i = t
  unfold State.declareFault at h
  try dsimp only at h
  subst h
  simp

@[simp] theorem State.staleTimerExpired_frame (s : State) (i : Input) :
    (s.staleTimerExpired i).pending = s.pending ∧ (s.staleTimerExpired i).uptime = s.uptime ∧
    (s.staleTimerExpired i).freeCount = s.freeCount ∧ (s.staleTimerExpired i).pins = s.pins ∧
    (s.staleTimerExpired i).store = s.store ∧ (s.staleTimerExpired i).load = s.load ∧
    (s.staleTimerExpired i).ldu = s.ldu ∧ (s.staleTimerExpired i).lfc = s.lfc ∧ (s.staleTimerExpired i).wsu = s.wsu ∧
    (s.staleTimerExpired i).tyu = s.tyu ∧ (s.staleTimerExpired i).aac = s.aac ∧ (s.staleTimerExpired i).xpt = s.xpt ∧
    (s.staleTimerExpired i).port = s.port := by
  generalize h : s.staleTimerExpired i = t
  unfold State.staleTimerExpired at h
  try dsimp only at h
  (repeat' split at h) <;> (subst h; simp)

@[simp] theorem State.clearFault_frame (s : State) (i : Input) :
    (s.clearFault i).pending = s.pending ∧ (s.clearFault i).uptime = s.uptime ∧
    (s.clearFault i).freeCount = s.freeCount ∧ (s.clearFault i).pins = s.pins ∧ (s.clearFault i).store = s.store ∧
    (s.clearFault i).load = s.load ∧ (s.clearFault i).ldu = s.ldu ∧ (s.clearFault i).lfc = s.lfc ∧
    (s.clearFault i).wsu = s.wsu ∧ (s.clearFault i).scu = s.scu ∧ (s.clearFault i).mdu = s.mdu ∧
    (s.clearFault i).rou = s.rou ∧ (s.clearFault i).tyu = s.tyu ∧ (s.clearFault i).aac = s.aac ∧
    (s.clearFault i).xpt = s.xpt ∧ (s.clearFault i).port = s.port := by
  generalize h : s.clearFault i = t
  unfold State.clearFault at h
  try dsimp only at h
  (repeat' split at h) <;> (subst h; simp)

@[simp] theorem State.recoveryTimerExpired_frame (s : State) (i : Input) :
    (s.recoveryTimerExpired i).pending = s.pending ∧ (s.recoveryTimerExpired i).uptime = s.uptime ∧
    (s.recoveryTimerExpired i).freeCount = s.freeCount ∧ (s.recoveryTimerExpired i).pins = s.pins ∧
    (s.recoveryTimerExpired i).store = s.store ∧ (s.recoveryTimerExpired i).load = s.load ∧
    (s.recoveryTimerExpired i).ldu = s.ldu ∧ (s.recoveryTimerExpired i).lfc = s.lfc ∧
    (s.recoveryTimerExpired i).wsu = s.wsu ∧ (s.recoveryTimerExpired i).scu = s.scu ∧
    (s.recoveryTimerExpired i).mdu = s.mdu ∧ (s.recoveryTimerExpired i).rou = s.rou ∧
    (s.recoveryTimerExpired i).tyu = s.tyu ∧ (s.recoveryTimerExpired i).aac = s.aac ∧
    (s.recoveryTimerExpired i).xpt = s.xpt ∧ (s.recoveryTimerExpired i).port = s.port := by
  generalize h : s.recoveryTimerExpired i = t
  unfold State.recoveryTimerExpired at h
  try dsimp only at h
  (repeat' split at h) <;> (subst h; simp)

@[simp] theorem State.sectionTimerExpired_frame (s : State) :
    (s.sectionTimerExpired).pending = s.pending ∧ (s.sectionTimerExpired).uptime = s.uptime ∧
    (s.sectionTimerExpired).freeCount = s.freeCount ∧ (s.sectionTimerExpired).pins = s.pins ∧
    (s.sectionTimerExpired).store = s.store ∧ (s.sectionTimerExpired).load = s.load ∧
    (s.sectionTimerExpired).ldu = s.ldu ∧ (s.sectionTimerExpired).lfc = s.lfc ∧ (s.sectionTimerExpired).wsu = s.wsu ∧
    (s.sectionTimerExpired).scu = s.scu ∧ (s.sectionTimerExpired).mdu = s.mdu ∧ (s.sectionTimerExpired).rou = s.rou ∧
    (s.sectionTimerExpired).tyu = s.tyu ∧ (s.sectionTimerExpired).aac = s.aac ∧ (s.sectionTimerExpired).xpt = s.xpt ∧
    (s.sectionTimerExpired).port = s.port ∧ (s.sectionTimerExpired).atc = s.atc ∧
    (s.sectionTimerExpired).health = s.health ∧ (s.sectionTimerExpired).jrw = s.jrw := by
  generalize h : s.sectionTimerExpired = t
  unfold State.sectionTimerExpired at h
  try dsimp only at h
  (repeat' split at h) <;> (subst h; simp)

@[simp] theorem State.adoptReport_frame (s : State) :
    (s.adoptReport).pending = s.pending ∧ (s.adoptReport).uptime = s.uptime ∧
    (s.adoptReport).freeCount = s.freeCount ∧ (s.adoptReport).pins = s.pins ∧ (s.adoptReport).store = s.store ∧
    (s.adoptReport).load = s.load ∧ (s.adoptReport).sfe = s.sfe ∧ (s.adoptReport).ldu = s.ldu ∧
    (s.adoptReport).lfc = s.lfc ∧ (s.adoptReport).wsu = s.wsu ∧ (s.adoptReport).scu = s.scu ∧
    (s.adoptReport).mdu = s.mdu ∧ (s.adoptReport).rou = s.rou ∧ (s.adoptReport).tyu = s.tyu ∧
    (s.adoptReport).aac = s.aac ∧ (s.adoptReport).port = s.port := by
  generalize h : s.adoptReport = t
  unfold State.adoptReport at h
  try dsimp only at h
  subst h
  simp

@[simp] theorem State.requestReaches_frame (s : State) (r : Request) :
    (s.requestReaches r).pending = s.pending ∧ (s.requestReaches r).uptime = s.uptime ∧
    (s.requestReaches r).freeCount = s.freeCount ∧ (s.requestReaches r).pins = s.pins ∧
    (s.requestReaches r).store = s.store ∧ (s.requestReaches r).load = s.load ∧ (s.requestReaches r).sfe = s.sfe ∧
    (s.requestReaches r).ldu = s.ldu ∧ (s.requestReaches r).lfc = s.lfc ∧ (s.requestReaches r).wsu = s.wsu ∧
    (s.requestReaches r).scu = s.scu ∧ (s.requestReaches r).mdu = s.mdu ∧ (s.requestReaches r).rou = s.rou ∧
    (s.requestReaches r).aac = s.aac ∧ (s.requestReaches r).port = s.port := by
  generalize h : s.requestReaches r = t
  unfold State.requestReaches at h
  try dsimp only at h
  (repeat' split at h) <;> (subst h; simp)

@[simp] theorem State.request_frame (s : State) (r : Request) :
    (s.request r).pending = s.pending ∧ (s.request r).uptime = s.uptime ∧ (s.request r).freeCount = s.freeCount ∧
    (s.request r).pins = s.pins ∧ (s.request r).store = s.store ∧ (s.request r).load = s.load ∧
    (s.request r).sfe = s.sfe ∧ (s.request r).ldu = s.ldu ∧ (s.request r).lfc = s.lfc ∧ (s.request r).wsu = s.wsu ∧
    (s.request r).scu = s.scu ∧ (s.request r).mdu = s.mdu ∧ (s.request r).rou = s.rou ∧ (s.request r).aac = s.aac ∧
    (s.request r).port = s.port := by
  generalize h : s.request r = t
  unfold State.request at h
  try dsimp only at h
  (repeat' split at h) <;> (subst h; simp)

theorem foldRequest_frame (v : Half) : ∀ (l : List Request) (s : State),
    (l.foldl (fun t r => if v.getLsbD r.index then t.request r else t) s).pending = s.pending ∧
    (l.foldl (fun t r => if v.getLsbD r.index then t.request r else t) s).uptime = s.uptime ∧
    (l.foldl (fun t r => if v.getLsbD r.index then t.request r else t) s).freeCount = s.freeCount ∧
    (l.foldl (fun t r => if v.getLsbD r.index then t.request r else t) s).pins = s.pins ∧
    (l.foldl (fun t r => if v.getLsbD r.index then t.request r else t) s).store = s.store ∧
    (l.foldl (fun t r => if v.getLsbD r.index then t.request r else t) s).load = s.load ∧
    (l.foldl (fun t r => if v.getLsbD r.index then t.request r else t) s).sfe = s.sfe ∧
    (l.foldl (fun t r => if v.getLsbD r.index then t.request r else t) s).ldu = s.ldu ∧
    (l.foldl (fun t r => if v.getLsbD r.index then t.request r else t) s).lfc = s.lfc ∧
    (l.foldl (fun t r => if v.getLsbD r.index then t.request r else t) s).wsu = s.wsu ∧
    (l.foldl (fun t r => if v.getLsbD r.index then t.request r else t) s).scu = s.scu ∧
    (l.foldl (fun t r => if v.getLsbD r.index then t.request r else t) s).mdu = s.mdu ∧
    (l.foldl (fun t r => if v.getLsbD r.index then t.request r else t) s).rou = s.rou ∧
    (l.foldl (fun t r => if v.getLsbD r.index then t.request r else t) s).aac = s.aac ∧
    (l.foldl (fun t r => if v.getLsbD r.index then t.request r else t) s).port = s.port := by
  intro l
  induction l with
  | nil => intro s; simp
  | cons r xs ih =>
    intro s
    have h := ih (if v.getLsbD r.index then s.request r else s)
    simp only [List.foldl_cons]
    split at h <;> simp_all

@[simp] theorem State.writeTake_frame (s : State) (v : Half) :
    (s.writeTake v).pending = s.pending ∧ (s.writeTake v).uptime = s.uptime ∧
    (s.writeTake v).freeCount = s.freeCount ∧ (s.writeTake v).pins = s.pins ∧ (s.writeTake v).store = s.store ∧
    (s.writeTake v).load = s.load ∧ (s.writeTake v).sfe = s.sfe ∧ (s.writeTake v).ldu = s.ldu ∧
    (s.writeTake v).lfc = s.lfc ∧ (s.writeTake v).wsu = s.wsu ∧ (s.writeTake v).scu = s.scu ∧
    (s.writeTake v).mdu = s.mdu ∧ (s.writeTake v).rou = s.rou ∧ (s.writeTake v).aac = s.aac ∧
    (s.writeTake v).port = s.port := by
  unfold State.writeTake
  exact foldRequest_frame v Request.all s

@[simp] theorem State.askJournal_frame (s : State) (l : Level) :
    (s.askJournal l).pending = s.pending ∧ (s.askJournal l).uptime = s.uptime ∧
    (s.askJournal l).freeCount = s.freeCount ∧ (s.askJournal l).pins = s.pins ∧ (s.askJournal l).store = s.store ∧
    (s.askJournal l).load = s.load ∧ (s.askJournal l).sfe = s.sfe ∧ (s.askJournal l).ldu = s.ldu ∧
    (s.askJournal l).lfc = s.lfc ∧ (s.askJournal l).wsu = s.wsu ∧ (s.askJournal l).scu = s.scu ∧
    (s.askJournal l).mdu = s.mdu ∧ (s.askJournal l).rou = s.rou ∧ (s.askJournal l).tyu = s.tyu ∧
    (s.askJournal l).aac = s.aac ∧ (s.askJournal l).xpt = s.xpt ∧ (s.askJournal l).port = s.port ∧
    (s.askJournal l).health = s.health := by
  generalize h : s.askJournal l = t
  unfold State.askJournal at h
  try dsimp only at h
  (repeat' split at h) <;> (subst h; simp)

@[simp] theorem State.endLevel_frame (s : State) (l : Level) :
    (s.endLevel l).pending = s.pending ∧ (s.endLevel l).uptime = s.uptime ∧ (s.endLevel l).freeCount = s.freeCount ∧
    (s.endLevel l).pins = s.pins ∧ (s.endLevel l).store = s.store ∧ (s.endLevel l).load = s.load ∧
    (s.endLevel l).sfe = s.sfe ∧ (s.endLevel l).ldu = s.ldu ∧ (s.endLevel l).lfc = s.lfc ∧
    (s.endLevel l).wsu = s.wsu ∧ (s.endLevel l).scu = s.scu ∧ (s.endLevel l).mdu = s.mdu ∧
    (s.endLevel l).rou = s.rou ∧ (s.endLevel l).tyu = s.tyu ∧ (s.endLevel l).aac = s.aac ∧
    (s.endLevel l).xpt = s.xpt ∧ (s.endLevel l).port = s.port ∧ (s.endLevel l).health = s.health := by
  generalize h : s.endLevel l = t
  unfold State.endLevel at h
  try dsimp only at h
  subst h
  simp

@[simp] theorem State.writeEnd_frame (s : State) (v : Half) :
    (s.writeEnd v).pending = s.pending ∧ (s.writeEnd v).uptime = s.uptime ∧ (s.writeEnd v).freeCount = s.freeCount ∧
    (s.writeEnd v).pins = s.pins ∧ (s.writeEnd v).store = s.store ∧ (s.writeEnd v).load = s.load ∧
    (s.writeEnd v).sfe = s.sfe ∧ (s.writeEnd v).ldu = s.ldu ∧ (s.writeEnd v).lfc = s.lfc ∧
    (s.writeEnd v).wsu = s.wsu ∧ (s.writeEnd v).scu = s.scu ∧ (s.writeEnd v).mdu = s.mdu ∧
    (s.writeEnd v).rou = s.rou ∧ (s.writeEnd v).tyu = s.tyu ∧ (s.writeEnd v).aac = s.aac ∧
    (s.writeEnd v).xpt = s.xpt ∧ (s.writeEnd v).port = s.port ∧ (s.writeEnd v).health = s.health := by
  generalize h : s.writeEnd v = t
  unfold State.writeEnd at h
  try dsimp only at h
  (repeat' split at h) <;> (subst h; simp)

@[simp] theorem State.registerRead_frame (s : State) (r : Register) :
    (s.registerRead r).pending = s.pending ∧ (s.registerRead r).uptime = s.uptime ∧
    (s.registerRead r).freeCount = s.freeCount ∧ (s.registerRead r).pins = s.pins ∧
    (s.registerRead r).store = s.store ∧ (s.registerRead r).load = s.load ∧ (s.registerRead r).sfe = s.sfe ∧
    (s.registerRead r).ldu = s.ldu ∧ (s.registerRead r).lfc = s.lfc ∧ (s.registerRead r).wsu = s.wsu ∧
    (s.registerRead r).scu = s.scu ∧ (s.registerRead r).mdu = s.mdu ∧ (s.registerRead r).rou = s.rou ∧
    (s.registerRead r).tyu = s.tyu ∧ (s.registerRead r).aac = s.aac ∧ (s.registerRead r).xpt = s.xpt ∧
    (s.registerRead r).port = s.port ∧ (s.registerRead r).jrw = s.jrw ∧ (s.registerRead r).mem = s.mem := by
  generalize h : s.registerRead r = t
  unfold State.registerRead at h
  try dsimp only at h
  (repeat' split at h) <;> (subst h; simp)

@[simp] theorem State.registerWrite_frame (s : State) (v : Half) (r : Register) :
    (s.registerWrite v r).pending = s.pending ∧ (s.registerWrite v r).uptime = s.uptime ∧
    (s.registerWrite v r).freeCount = s.freeCount ∧ (s.registerWrite v r).pins = s.pins ∧
    (s.registerWrite v r).store = s.store ∧ (s.registerWrite v r).load = s.load ∧ (s.registerWrite v r).sfe = s.sfe ∧
    (s.registerWrite v r).ldu = s.ldu ∧ (s.registerWrite v r).lfc = s.lfc ∧ (s.registerWrite v r).wsu = s.wsu ∧
    (s.registerWrite v r).scu = s.scu ∧ (s.registerWrite v r).mdu = s.mdu ∧ (s.registerWrite v r).rou = s.rou ∧
    (s.registerWrite v r).aac = s.aac ∧ (s.registerWrite v r).port = s.port := by
  generalize h : s.registerWrite v r = t
  unfold State.registerWrite at h
  try dsimp only at h
  (repeat' split at h) <;> (subst h; simp)

theorem foldCommit_frame : ∀ (l : List Host.Cell) (s : State),
    (l.foldl (fun t (c : Host.Cell) => t.store8 c.1 [c.2]) s).pending = s.pending ∧
    (l.foldl (fun t (c : Host.Cell) => t.store8 c.1 [c.2]) s).uptime = s.uptime ∧
    (l.foldl (fun t (c : Host.Cell) => t.store8 c.1 [c.2]) s).freeCount = s.freeCount ∧
    (l.foldl (fun t (c : Host.Cell) => t.store8 c.1 [c.2]) s).pins = s.pins ∧
    (l.foldl (fun t (c : Host.Cell) => t.store8 c.1 [c.2]) s).store = s.store ∧
    (l.foldl (fun t (c : Host.Cell) => t.store8 c.1 [c.2]) s).load = s.load ∧
    (l.foldl (fun t (c : Host.Cell) => t.store8 c.1 [c.2]) s).sfe = s.sfe ∧
    (l.foldl (fun t (c : Host.Cell) => t.store8 c.1 [c.2]) s).ldu = s.ldu ∧
    (l.foldl (fun t (c : Host.Cell) => t.store8 c.1 [c.2]) s).lfc = s.lfc ∧
    (l.foldl (fun t (c : Host.Cell) => t.store8 c.1 [c.2]) s).wsu = s.wsu ∧
    (l.foldl (fun t (c : Host.Cell) => t.store8 c.1 [c.2]) s).scu = s.scu ∧
    (l.foldl (fun t (c : Host.Cell) => t.store8 c.1 [c.2]) s).mdu = s.mdu ∧
    (l.foldl (fun t (c : Host.Cell) => t.store8 c.1 [c.2]) s).rou = s.rou ∧
    (l.foldl (fun t (c : Host.Cell) => t.store8 c.1 [c.2]) s).tyu = s.tyu ∧
    (l.foldl (fun t (c : Host.Cell) => t.store8 c.1 [c.2]) s).aac = s.aac ∧
    (l.foldl (fun t (c : Host.Cell) => t.store8 c.1 [c.2]) s).xpt = s.xpt ∧
    (l.foldl (fun t (c : Host.Cell) => t.store8 c.1 [c.2]) s).port = s.port ∧
    (l.foldl (fun t (c : Host.Cell) => t.store8 c.1 [c.2]) s).atc = s.atc ∧
    (l.foldl (fun t (c : Host.Cell) => t.store8 c.1 [c.2]) s).health = s.health ∧
    (l.foldl (fun t (c : Host.Cell) => t.store8 c.1 [c.2]) s).jrw = s.jrw := by
  intro l
  induction l with
  | nil => intro s; simp
  | cons c xs ih =>
    intro s
    have h := ih (s.store8 c.1 [c.2])
    simp_all

@[simp] theorem State.commit_frame (s : State) (x : List Host.Cell) :
    (s.commit x).pending = s.pending ∧ (s.commit x).uptime = s.uptime ∧ (s.commit x).freeCount = s.freeCount ∧
    (s.commit x).pins = s.pins ∧ (s.commit x).store = s.store ∧ (s.commit x).load = s.load ∧
    (s.commit x).sfe = s.sfe ∧ (s.commit x).ldu = s.ldu ∧ (s.commit x).lfc = s.lfc ∧ (s.commit x).wsu = s.wsu ∧
    (s.commit x).scu = s.scu ∧ (s.commit x).mdu = s.mdu ∧ (s.commit x).rou = s.rou ∧ (s.commit x).tyu = s.tyu ∧
    (s.commit x).aac = s.aac ∧ (s.commit x).xpt = s.xpt ∧ (s.commit x).port = s.port ∧ (s.commit x).atc = s.atc ∧
    (s.commit x).health = s.health ∧ (s.commit x).jrw = s.jrw := by
  unfold State.commit
  exact foldCommit_frame x s

@[simp] theorem State.endTransaction_frame (s : State) :
    (s.endTransaction).pending = s.pending ∧ (s.endTransaction).uptime = s.uptime ∧
    (s.endTransaction).freeCount = s.freeCount ∧ (s.endTransaction).pins = s.pins ∧
    (s.endTransaction).store = s.store ∧ (s.endTransaction).load = s.load ∧ (s.endTransaction).sfe = s.sfe ∧
    (s.endTransaction).ldu = s.ldu ∧ (s.endTransaction).lfc = s.lfc ∧ (s.endTransaction).wsu = s.wsu ∧
    (s.endTransaction).scu = s.scu ∧ (s.endTransaction).mdu = s.mdu ∧ (s.endTransaction).rou = s.rou ∧
    (s.endTransaction).tyu = s.tyu ∧ (s.endTransaction).aac = s.aac ∧ (s.endTransaction).xpt = s.xpt ∧
    (s.endTransaction).atc = s.atc ∧ (s.endTransaction).health = s.health ∧ (s.endTransaction).jrw = s.jrw := by
  generalize h : s.endTransaction = t
  unfold State.endTransaction at h
  try dsimp only at h
  (repeat' split at h) <;> (subst h; simp)

@[simp] theorem State.readRegister_frame (s : State) (r : Register) :
    (s.readRegister r).pending = s.pending ∧ (s.readRegister r).uptime = s.uptime ∧
    (s.readRegister r).freeCount = s.freeCount ∧ (s.readRegister r).pins = s.pins ∧
    (s.readRegister r).store = s.store ∧ (s.readRegister r).load = s.load ∧ (s.readRegister r).sfe = s.sfe ∧
    (s.readRegister r).ldu = s.ldu ∧ (s.readRegister r).lfc = s.lfc ∧ (s.readRegister r).wsu = s.wsu ∧
    (s.readRegister r).scu = s.scu ∧ (s.readRegister r).mdu = s.mdu ∧ (s.readRegister r).rou = s.rou ∧
    (s.readRegister r).tyu = s.tyu ∧ (s.readRegister r).aac = s.aac ∧ (s.readRegister r).xpt = s.xpt ∧
    (s.readRegister r).jrw = s.jrw := by
  generalize h : s.readRegister r = t
  unfold State.readRegister at h
  try dsimp only at h
  (repeat' split at h) <;> (subst h; simp)

@[simp] theorem State.writeRegister_frame (s : State) (r : Register) (v : Half) :
    (s.writeRegister r v).pending = s.pending ∧ (s.writeRegister r v).uptime = s.uptime ∧
    (s.writeRegister r v).freeCount = s.freeCount ∧ (s.writeRegister r v).pins = s.pins ∧
    (s.writeRegister r v).store = s.store ∧ (s.writeRegister r v).load = s.load ∧ (s.writeRegister r v).sfe = s.sfe ∧
    (s.writeRegister r v).ldu = s.ldu ∧ (s.writeRegister r v).lfc = s.lfc ∧ (s.writeRegister r v).wsu = s.wsu ∧
    (s.writeRegister r v).scu = s.scu ∧ (s.writeRegister r v).mdu = s.mdu ∧ (s.writeRegister r v).rou = s.rou ∧
    (s.writeRegister r v).aac = s.aac := by
  generalize h : s.writeRegister r v = t
  unfold State.writeRegister at h
  try dsimp only at h
  (repeat' split at h) <;> (subst h; simp)

@[simp] theorem State.writeRequest_frame (s : State) (r : Request) :
    (s.writeRequest r).pending = s.pending ∧ (s.writeRequest r).uptime = s.uptime ∧
    (s.writeRequest r).freeCount = s.freeCount ∧ (s.writeRequest r).pins = s.pins ∧
    (s.writeRequest r).store = s.store ∧ (s.writeRequest r).load = s.load ∧ (s.writeRequest r).sfe = s.sfe ∧
    (s.writeRequest r).ldu = s.ldu ∧ (s.writeRequest r).lfc = s.lfc ∧ (s.writeRequest r).wsu = s.wsu ∧
    (s.writeRequest r).scu = s.scu ∧ (s.writeRequest r).mdu = s.mdu ∧ (s.writeRequest r).rou = s.rou ∧
    (s.writeRequest r).aac = s.aac := by
  generalize h : s.writeRequest r = t
  unfold State.writeRequest at h
  try dsimp only at h
  (repeat' split at h) <;> (subst h; simp)

@[simp] theorem State.writeSafeSections_frame (s : State) :
    (s.writeSafeSections).pending = s.pending ∧ (s.writeSafeSections).uptime = s.uptime ∧
    (s.writeSafeSections).freeCount = s.freeCount ∧ (s.writeSafeSections).pins = s.pins ∧
    (s.writeSafeSections).store = s.store ∧ (s.writeSafeSections).load = s.load ∧ (s.writeSafeSections).sfe = s.sfe ∧
    (s.writeSafeSections).ldu = s.ldu ∧ (s.writeSafeSections).lfc = s.lfc ∧ (s.writeSafeSections).wsu = s.wsu ∧
    (s.writeSafeSections).scu = s.scu ∧ (s.writeSafeSections).mdu = s.mdu ∧ (s.writeSafeSections).rou = s.rou ∧
    (s.writeSafeSections).tyu = s.tyu ∧ (s.writeSafeSections).aac = s.aac ∧ (s.writeSafeSections).xpt = s.xpt ∧
    (s.writeSafeSections).port = s.port ∧ (s.writeSafeSections).atc = s.atc ∧
    (s.writeSafeSections).health = s.health ∧ (s.writeSafeSections).jrw = s.jrw := by
  simp [State.writeSafeSections]

@[simp] theorem State.enterUnconfigured_frame (s : State) :
    (s.enterUnconfigured).pending = s.pending ∧ (s.enterUnconfigured).uptime = s.uptime ∧
    (s.enterUnconfigured).freeCount = s.freeCount ∧ (s.enterUnconfigured).pins = s.pins ∧
    (s.enterUnconfigured).store = s.store ∧ (s.enterUnconfigured).load = s.load ∧ (s.enterUnconfigured).lfc = s.lfc ∧
    (s.enterUnconfigured).aac = s.aac ∧ (s.enterUnconfigured).port = s.port := by
  generalize h : s.enterUnconfigured = t
  unfold State.enterUnconfigured at h
  try dsimp only at h
  subst h
  simp

@[simp] theorem State.enterSafe_frame (s : State) :
    (s.enterSafe).pending = s.pending ∧ (s.enterSafe).uptime = s.uptime ∧ (s.enterSafe).freeCount = s.freeCount ∧
    (s.enterSafe).pins = s.pins ∧ (s.enterSafe).store = s.store ∧ (s.enterSafe).load = s.load ∧
    (s.enterSafe).sfe = s.sfe ∧ (s.enterSafe).ldu = s.ldu ∧ (s.enterSafe).lfc = s.lfc ∧ (s.enterSafe).wsu = s.wsu ∧
    (s.enterSafe).scu = s.scu ∧ (s.enterSafe).mdu = s.mdu ∧ (s.enterSafe).rou = s.rou ∧ (s.enterSafe).tyu = s.tyu ∧
    (s.enterSafe).aac = s.aac ∧ (s.enterSafe).port = s.port := by
  generalize h : s.enterSafe = t
  unfold State.enterSafe at h
  try dsimp only at h
  subst h
  simp

@[simp] theorem State.loadCompleted_frame (s : State) :
    (s.loadCompleted).pending = s.pending ∧ (s.loadCompleted).uptime = s.uptime ∧
    (s.loadCompleted).freeCount = s.freeCount ∧ (s.loadCompleted).pins = s.pins ∧ (s.loadCompleted).store = s.store ∧
    (s.loadCompleted).lfc = s.lfc ∧ (s.loadCompleted).aac = s.aac ∧ (s.loadCompleted).port = s.port := by
  generalize h : s.loadCompleted = t
  unfold State.loadCompleted at h
  try dsimp only at h
  (repeat' split at h) <;> (subst h; simp)

@[simp] theorem State.readByte_frame (s : State) (x : Txn) :
    ((s.readByte x).2.2).pending = s.pending ∧ ((s.readByte x).2.2).uptime = s.uptime ∧
    ((s.readByte x).2.2).freeCount = s.freeCount ∧ ((s.readByte x).2.2).pins = s.pins ∧
    ((s.readByte x).2.2).store = s.store ∧ ((s.readByte x).2.2).load = s.load ∧ ((s.readByte x).2.2).sfe = s.sfe ∧
    ((s.readByte x).2.2).ldu = s.ldu ∧ ((s.readByte x).2.2).lfc = s.lfc ∧ ((s.readByte x).2.2).wsu = s.wsu ∧
    ((s.readByte x).2.2).scu = s.scu ∧ ((s.readByte x).2.2).mdu = s.mdu ∧ ((s.readByte x).2.2).rou = s.rou ∧
    ((s.readByte x).2.2).tyu = s.tyu ∧ ((s.readByte x).2.2).aac = s.aac ∧ ((s.readByte x).2.2).xpt = s.xpt ∧
    ((s.readByte x).2.2).port = s.port ∧ ((s.readByte x).2.2).jrw = s.jrw ∧ ((s.readByte x).2.2).mem = s.mem := by
  generalize h : s.readByte x = r
  unfold State.readByte at h
  dsimp only at h
  (repeat' split at h) <;> (subst h; simp)

@[simp] theorem State.writeMemoryByte_frame (s : State) (x : Txn) (b : Byte) :
    ((s.writeMemoryByte x b).2).pending = s.pending ∧ ((s.writeMemoryByte x b).2).uptime = s.uptime ∧
    ((s.writeMemoryByte x b).2).freeCount = s.freeCount ∧ ((s.writeMemoryByte x b).2).pins = s.pins ∧
    ((s.writeMemoryByte x b).2).store = s.store ∧ ((s.writeMemoryByte x b).2).load = s.load ∧
    ((s.writeMemoryByte x b).2).sfe = s.sfe ∧ ((s.writeMemoryByte x b).2).ldu = s.ldu ∧
    ((s.writeMemoryByte x b).2).lfc = s.lfc ∧ ((s.writeMemoryByte x b).2).wsu = s.wsu ∧
    ((s.writeMemoryByte x b).2).scu = s.scu ∧ ((s.writeMemoryByte x b).2).mdu = s.mdu ∧
    ((s.writeMemoryByte x b).2).rou = s.rou ∧ ((s.writeMemoryByte x b).2).tyu = s.tyu ∧
    ((s.writeMemoryByte x b).2).aac = s.aac ∧ ((s.writeMemoryByte x b).2).xpt = s.xpt ∧
    ((s.writeMemoryByte x b).2).port = s.port ∧ ((s.writeMemoryByte x b).2).atc = s.atc ∧
    ((s.writeMemoryByte x b).2).health = s.health ∧ ((s.writeMemoryByte x b).2).jrw = s.jrw := by
  unfold State.writeMemoryByte
  dsimp only
  split <;> simp

@[simp] theorem State.writeRegisterByte_frame (s : State) (x : Txn) (b : Byte) :
    ((s.writeRegisterByte x b).2).pending = s.pending ∧ ((s.writeRegisterByte x b).2).uptime = s.uptime ∧
    ((s.writeRegisterByte x b).2).freeCount = s.freeCount ∧ ((s.writeRegisterByte x b).2).pins = s.pins ∧
    ((s.writeRegisterByte x b).2).store = s.store ∧ ((s.writeRegisterByte x b).2).load = s.load ∧
    ((s.writeRegisterByte x b).2).sfe = s.sfe ∧ ((s.writeRegisterByte x b).2).ldu = s.ldu ∧
    ((s.writeRegisterByte x b).2).lfc = s.lfc ∧ ((s.writeRegisterByte x b).2).wsu = s.wsu ∧
    ((s.writeRegisterByte x b).2).scu = s.scu ∧ ((s.writeRegisterByte x b).2).mdu = s.mdu ∧
    ((s.writeRegisterByte x b).2).rou = s.rou ∧ ((s.writeRegisterByte x b).2).aac = s.aac ∧
    ((s.writeRegisterByte x b).2).port = s.port := by
  unfold State.writeRegisterByte
  (repeat' split) <;> simp

@[simp] theorem State.writeByte_frame (s : State) (x : Txn) (b : Byte) :
    ((s.writeByte x b).2).pending = s.pending ∧ ((s.writeByte x b).2).uptime = s.uptime ∧
    ((s.writeByte x b).2).freeCount = s.freeCount ∧ ((s.writeByte x b).2).pins = s.pins ∧
    ((s.writeByte x b).2).store = s.store ∧ ((s.writeByte x b).2).load = s.load ∧ ((s.writeByte x b).2).sfe = s.sfe ∧
    ((s.writeByte x b).2).ldu = s.ldu ∧ ((s.writeByte x b).2).lfc = s.lfc ∧ ((s.writeByte x b).2).wsu = s.wsu ∧
    ((s.writeByte x b).2).scu = s.scu ∧ ((s.writeByte x b).2).mdu = s.mdu ∧ ((s.writeByte x b).2).rou = s.rou ∧
    ((s.writeByte x b).2).aac = s.aac ∧ ((s.writeByte x b).2).port = s.port := by
  unfold State.writeByte
  (repeat' split) <;> simp

@[simp] theorem State.headerByte_frame (s : State) (x : List Byte) (b : Byte) :
    (s.headerByte x b).pending = s.pending ∧ (s.headerByte x b).uptime = s.uptime ∧
    (s.headerByte x b).freeCount = s.freeCount ∧ (s.headerByte x b).pins = s.pins ∧
    (s.headerByte x b).store = s.store ∧ (s.headerByte x b).load = s.load ∧ (s.headerByte x b).sfe = s.sfe ∧
    (s.headerByte x b).ldu = s.ldu ∧ (s.headerByte x b).lfc = s.lfc ∧ (s.headerByte x b).wsu = s.wsu ∧
    (s.headerByte x b).scu = s.scu ∧ (s.headerByte x b).mdu = s.mdu ∧ (s.headerByte x b).rou = s.rou ∧
    (s.headerByte x b).tyu = s.tyu ∧ (s.headerByte x b).aac = s.aac ∧ (s.headerByte x b).xpt = s.xpt ∧
    (s.headerByte x b).atc = s.atc ∧ (s.headerByte x b).health = s.health ∧ (s.headerByte x b).jrw = s.jrw ∧
    (s.headerByte x b).mem = s.mem := by
  simp [State.headerByte]

@[simp] theorem State.readData_frame (s : State) (x : Txn) :
    (s.readData x).pending = s.pending ∧ (s.readData x).uptime = s.uptime ∧ (s.readData x).freeCount = s.freeCount ∧
    (s.readData x).pins = s.pins ∧ (s.readData x).store = s.store ∧ (s.readData x).load = s.load ∧
    (s.readData x).sfe = s.sfe ∧ (s.readData x).ldu = s.ldu ∧ (s.readData x).lfc = s.lfc ∧
    (s.readData x).wsu = s.wsu ∧ (s.readData x).scu = s.scu ∧ (s.readData x).mdu = s.mdu ∧
    (s.readData x).rou = s.rou ∧ (s.readData x).tyu = s.tyu ∧ (s.readData x).aac = s.aac ∧
    (s.readData x).xpt = s.xpt ∧ (s.readData x).jrw = s.jrw ∧ (s.readData x).mem = s.mem := by
  simp [State.readData]

@[simp] theorem State.writeData_frame (s : State) (x : Txn) (b : Byte) :
    (s.writeData x b).pending = s.pending ∧ (s.writeData x b).uptime = s.uptime ∧
    (s.writeData x b).freeCount = s.freeCount ∧ (s.writeData x b).pins = s.pins ∧ (s.writeData x b).store = s.store ∧
    (s.writeData x b).load = s.load ∧ (s.writeData x b).sfe = s.sfe ∧ (s.writeData x b).ldu = s.ldu ∧
    (s.writeData x b).lfc = s.lfc ∧ (s.writeData x b).wsu = s.wsu ∧ (s.writeData x b).scu = s.scu ∧
    (s.writeData x b).mdu = s.mdu ∧ (s.writeData x b).rou = s.rou ∧ (s.writeData x b).aac = s.aac := by
  simp [State.writeData]

@[simp] theorem State.portByte_frame (s : State) (b : Byte) :
    (s.portByte b).pending = s.pending ∧ (s.portByte b).uptime = s.uptime ∧ (s.portByte b).freeCount = s.freeCount ∧
    (s.portByte b).pins = s.pins ∧ (s.portByte b).store = s.store ∧ (s.portByte b).load = s.load ∧
    (s.portByte b).sfe = s.sfe ∧ (s.portByte b).ldu = s.ldu ∧ (s.portByte b).lfc = s.lfc ∧
    (s.portByte b).wsu = s.wsu ∧ (s.portByte b).scu = s.scu ∧ (s.portByte b).mdu = s.mdu ∧
    (s.portByte b).rou = s.rou ∧ (s.portByte b).aac = s.aac := by
  unfold State.portByte
  (repeat' split) <;> simp

@[simp] theorem State.beginTransaction_frame (s : State) :
    s.beginTransaction.pending = s.pending ∧ s.beginTransaction.uptime = s.uptime ∧
    s.beginTransaction.freeCount = s.freeCount ∧ s.beginTransaction.pins = s.pins ∧
    s.beginTransaction.store = s.store ∧ s.beginTransaction.load = s.load ∧ s.beginTransaction.sfe = s.sfe ∧
    s.beginTransaction.ldu = s.ldu ∧ s.beginTransaction.lfc = s.lfc ∧ s.beginTransaction.wsu = s.wsu ∧
    s.beginTransaction.scu = s.scu ∧ s.beginTransaction.mdu = s.mdu ∧ s.beginTransaction.rou = s.rou ∧
    s.beginTransaction.tyu = s.tyu ∧ s.beginTransaction.aac = s.aac ∧ s.beginTransaction.xpt = s.xpt ∧
    s.beginTransaction.atc = s.atc ∧ s.beginTransaction.health = s.health ∧ s.beginTransaction.jrw = s.jrw := by
  simp [State.beginTransaction]

theorem foldPortByte_frame : ∀ (bs : List Byte) (s : State),
    (bs.foldl State.portByte s).pending = s.pending ∧ (bs.foldl State.portByte s).uptime = s.uptime ∧
    (bs.foldl State.portByte s).freeCount = s.freeCount ∧ (bs.foldl State.portByte s).pins = s.pins ∧
    (bs.foldl State.portByte s).store = s.store ∧ (bs.foldl State.portByte s).load = s.load ∧
    (bs.foldl State.portByte s).sfe = s.sfe ∧ (bs.foldl State.portByte s).ldu = s.ldu ∧
    (bs.foldl State.portByte s).lfc = s.lfc ∧ (bs.foldl State.portByte s).wsu = s.wsu ∧
    (bs.foldl State.portByte s).scu = s.scu ∧ (bs.foldl State.portByte s).mdu = s.mdu ∧
    (bs.foldl State.portByte s).rou = s.rou ∧ (bs.foldl State.portByte s).aac = s.aac := by
  intro bs
  induction bs with
  | nil => intro s; simp
  | cons b bs ih => intro s; simp [ih (s.portByte b)]

@[simp] theorem State.portPart_frame (s : State) (b : Bool) (bs : List Byte) (e : Bool) :
    (s.portPart b bs e).pending = s.pending ∧ (s.portPart b bs e).uptime = s.uptime ∧
    (s.portPart b bs e).freeCount = s.freeCount ∧ (s.portPart b bs e).pins = s.pins ∧
    (s.portPart b bs e).store = s.store ∧ (s.portPart b bs e).load = s.load ∧ (s.portPart b bs e).sfe = s.sfe ∧
    (s.portPart b bs e).ldu = s.ldu ∧ (s.portPart b bs e).lfc = s.lfc ∧ (s.portPart b bs e).wsu = s.wsu ∧
    (s.portPart b bs e).scu = s.scu ∧ (s.portPart b bs e).mdu = s.mdu ∧ (s.portPart b bs e).rou = s.rou ∧
    (s.portPart b bs e).aac = s.aac := by
  generalize h : s.portPart b bs e = t
  unfold State.portPart at h
  dsimp only at h
  (repeat' split at h) <;> (subst h; simp [foldPortByte_frame])

end Sys2Proof.Machine
end

