-- ==== Sys2Proof/Laws/Memory.lean ====
section
/-! SUPPORT. Laws/Memory.lean: the one memory operation: what a write leaves at every address, and that it keeps the
canonical form. -/

namespace Sys2Proof.Machine

/-! ### The canonical form -/

theorem Memory.wfFrom_mono {m : Memory} : ∀ {lo lo' : Nat}, lo' ≤ lo → Memory.wfFrom lo m = true →
    Memory.wfFrom lo' m = true := by
  cases m with
  | nil => intros; rfl
  | cons c m =>
    intro lo lo' h hm
    simp only [Memory.wfFrom, Bool.and_eq_true, decide_eq_true_eq] at hm ⊢
    exact ⟨⟨⟨by omega, hm.1.1.2⟩, hm.1.2⟩, hm.2⟩

/-- Canonical means: addresses rise from `lo`, lie below the registers, and no byte is 0. -/
theorem Memory.wfFrom_iff : ∀ (m : Memory) (lo : Nat), Memory.wfFrom lo m = true ↔
    m.Pairwise (fun c d => c.1 < d.1) ∧ ∀ c ∈ m, lo ≤ c.1 ∧ c.1 < registerBase ∧ c.2 ≠ 0 := by
  intro m
  induction m with
  | nil => intro lo; simp [Memory.wfFrom]
  | cons c m ih =>
    intro lo
    simp only [Memory.wfFrom, Bool.and_eq_true, decide_eq_true_eq, ih, List.pairwise_cons, List.mem_cons,
      forall_eq_or_imp, bne_iff_ne, ne_eq]
    constructor
    · rintro ⟨⟨⟨h1, h2⟩, h3⟩, h4, h5⟩
      exact ⟨⟨fun d hd => by have := (h5 d hd).1; omega, h4⟩, ⟨h1, h2, h3⟩,
        fun d hd => ⟨by have := (h5 d hd).1; omega, (h5 d hd).2⟩⟩
    · rintro ⟨⟨h1, h2⟩, ⟨h3, h4, h5⟩, h6⟩
      exact ⟨⟨⟨h3, h4⟩, h5⟩, h2, fun d hd => ⟨by have := h1 d hd; omega, (h6 d hd).2⟩⟩

theorem Memory.mem_cells : ∀ (bs : List Byte) (a : Nat) (c : Host.Cell), c ∈ Memory.cells a bs →
    a ≤ c.1 ∧ c.1 < a + bs.length ∧ c.2 ≠ 0 := by
  intro bs
  induction bs with
  | nil => intro a c h; simp [Memory.cells] at h
  | cons b bs ih =>
    intro a c h
    simp only [Memory.cells] at h
    split at h
    · have := ih _ _ h; simp only [List.length_cons]; exact ⟨by omega, by omega, this.2.2⟩
    · rename_i hb
      rcases List.mem_cons.1 h with rfl | h
      · exact ⟨Nat.le_refl _, by simp, hb⟩
      · have := ih _ _ h; simp only [List.length_cons]; exact ⟨by omega, by omega, this.2.2⟩

theorem Memory.pairwise_cells : ∀ (bs : List Byte) (a : Nat),
    (Memory.cells a bs).Pairwise (fun c d => c.1 < d.1) := by
  intro bs
  induction bs with
  | nil => intro a; simp [Memory.cells]
  | cons b bs ih =>
    intro a
    simp only [Memory.cells]
    split
    · exact ih _
    · refine List.pairwise_cons.2 ⟨fun d hd => ?_, ih _⟩
      have := Memory.mem_cells _ _ _ hd
      show a < d.1
      omega

/-- Every write keeps the canonical form. -/
theorem Memory.wf_write {m : Memory} (h : Memory.wf m = true) (a : Nat) (bs : List Byte)
    (ha : a + bs.length ≤ registerBase) : Memory.wf (Memory.write m a bs) = true := by
  rw [Memory.wf, Memory.wfFrom_iff] at h ⊢
  obtain ⟨hp, hc⟩ := h
  unfold Memory.write
  refine ⟨List.pairwise_append.2 ⟨hp.filter _, List.pairwise_append.2
    ⟨Memory.pairwise_cells _ _, hp.filter _, ?_⟩, ?_⟩, ?_⟩
  · intro c hc' d hd
    have := Memory.mem_cells _ _ _ hc'
    simp only [List.mem_filter, decide_eq_true_eq] at hd
    omega
  · intro c hc' d hd
    simp only [List.mem_filter, decide_eq_true_eq] at hc'
    rcases List.mem_append.1 hd with hd | hd
    · have := Memory.mem_cells _ _ _ hd; omega
    · simp only [List.mem_filter, decide_eq_true_eq] at hd; omega
  · intro c hc'
    rcases List.mem_append.1 hc' with hc' | hc'
    · exact hc c (List.mem_filter.1 hc').1
    · rcases List.mem_append.1 hc' with hc' | hc'
      · have := Memory.mem_cells _ _ _ hc'; exact ⟨by omega, by omega, this.2.2⟩
      · exact hc c (List.mem_filter.1 hc').1

theorem Memory.wf_reset : Memory.wf Memory.reset = true := by decide

theorem Memory.wf_nil : Memory.wf [] = true := rfl

/-! ### What a write leaves at every address -/

theorem Memory.byte_append (m n : Memory) (x : Nat) (h : ∀ c ∈ m, c.1 ≠ x) :
    Memory.byte (m ++ n) x = Memory.byte n x := by
  induction m with
  | nil => rfl
  | cons c m ih =>
    have h1 : c.1 ≠ x := h c (by simp)
    show (if c.1 = x then c.2 else Memory.byte (m ++ n) x) = _
    rw [if_neg h1]
    exact ih (fun d hd => h d (by simp [hd]))

theorem Memory.byte_append_right (m n : Memory) (x : Nat) (h : ∀ c ∈ n, c.1 ≠ x) :
    Memory.byte (m ++ n) x = Memory.byte m x := by
  induction m with
  | nil =>
    have := Memory.byte_append n [] x h
    simpa using this
  | cons c m ih =>
    show (if c.1 = x then c.2 else Memory.byte (m ++ n) x) = (if c.1 = x then c.2 else Memory.byte m x)
    rw [ih]

theorem Memory.byte_filter (m : Memory) (p : Host.Cell → Bool) (x : Nat) (h : ∀ b, p (x, b) = true) :
    Memory.byte (m.filter p) x = Memory.byte m x := by
  induction m with
  | nil => rfl
  | cons c m ih =>
    simp only [List.filter_cons]
    by_cases hx : c.1 = x
    · subst hx
      rw [if_pos (h c.2)]
      simp [Memory.byte]
    · split
      · show (if c.1 = x then c.2 else _) = (if c.1 = x then c.2 else _)
        rw [ih]
      · rw [ih]; show _ = (if c.1 = x then c.2 else _); rw [if_neg hx]

theorem Memory.byte_cells : ∀ (bs : List Byte) (a k : Nat), k < bs.length →
    Memory.byte (Memory.cells a bs) (a + k) = bs.getD k 0 := by
  intro bs
  induction bs with
  | nil => intro a k h; simp at h
  | cons b bs ih =>
    intro a k h
    simp only [Memory.cells]
    cases k with
    | zero =>
      split
      · rename_i hb
        subst hb
        have hn : ∀ c ∈ Memory.cells (a + 1) bs, c.1 ≠ a := fun c hc => by
          have := Memory.mem_cells _ _ _ hc; omega
        have := Memory.byte_append _ [] a hn
        simpa [Memory.byte] using this
      · simp [Memory.byte]
    | succ k =>
      have hk : k < bs.length := by simpa using h
      have := ih (a + 1) k hk
      have e : a + (k + 1) = a + 1 + k := by omega
      split
      · rw [e, this]; rfl
      · show (if a = a + (k + 1) then b else _) = _
        rw [if_neg (by omega), e, this]; rfl

/-- Inside the bytes written, a read gives the byte written. -/
theorem Memory.byte_write_inside (m : Memory) (a k : Nat) (bs : List Byte) (h : k < bs.length) :
    Memory.byte (Memory.write m a bs) (a + k) = bs.getD k 0 := by
  unfold Memory.write
  rw [Memory.byte_append, Memory.byte_append_right, Memory.byte_cells _ _ _ h]
  · intro c hc; simp only [List.mem_filter, decide_eq_true_eq] at hc; omega
  · intro c hc; simp only [List.mem_filter, decide_eq_true_eq] at hc; omega

/-- Outside the bytes written, a read gives what it gave before. -/
theorem Memory.byte_write_outside (m : Memory) (a x : Nat) (bs : List Byte) (h : x < a ∨ a + bs.length ≤ x) :
    Memory.byte (Memory.write m a bs) x = Memory.byte m x := by
  unfold Memory.write
  have hcell : ∀ c ∈ Memory.cells a bs, c.1 ≠ x := fun c hc => by
    have := Memory.mem_cells _ _ _ hc; omega
  rcases h with h | h
  · rw [Memory.byte_append_right, Memory.byte_filter]
    · intro b; simp [h]
    · intro c hc
      rcases List.mem_append.1 hc with hc | hc
      · exact hcell c hc
      · simp only [List.mem_filter, decide_eq_true_eq] at hc; omega
  · rw [Memory.byte_append, Memory.byte_append _ _ _ hcell, Memory.byte_filter]
    · intro b; simp [h]
    · intro c hc; simp only [List.mem_filter, decide_eq_true_eq] at hc; omega

/-- A canonical memory lists no address at or above the registers. -/
theorem Memory.byte_of_le {m : Memory} (h : Memory.wf m = true) {x : Nat} (hx : registerBase ≤ x) :
    Memory.byte m x = 0 := by
  have hc := ((Memory.wfFrom_iff m 0).1 h).2
  have := Memory.byte_append m [] x (fun c hm => by have := (hc c hm).2.1; omega)
  simpa [Memory.byte] using this

/-! ### Section rewrites and records -/

theorem length_fitBytes (n : Nat) (bs : List Byte) : (fitBytes n bs).length = n := by
  simp [fitBytes]

theorem length_sectionBytes (sec : Section) (stamp : Nat) (body : List Item) :
    (sectionBytes sec stamp body).length = sec.size := by
  cases sec <;> simp [sectionBytes, bytes32, length_fitBytes, Section.size]

theorem length_recordBytes (r : Record) (t : Time) : (r.bytes t).length = 16 := by
  simp [Record.bytes, bytes16, bytes32]

/-- Every section lies in the status page. -/
theorem Section.inStatusPage (sec : Section) : 0x0C00 ≤ sec.base ∧ sec.base + sec.size ≤ 0x1400 := by
  cases sec <;> decide

theorem State.wf_rewrite {s : State} (h : Memory.wf s.mem = true) (sec : Section) (body : List Item) :
    Memory.wf (s.rewrite sec body).mem = true := by
  refine Memory.wf_write h _ _ ?_
  rw [length_sectionBytes]
  have := sec.inStatusPage
  simp only [registerBase]
  omega

/-- A rewrite leaves every address outside its section. -/
theorem State.byte_rewrite (s : State) (sec : Section) (body : List Item) (x : Nat)
    (h : x < sec.base ∨ sec.base + sec.size ≤ x) :
    Memory.byte (s.rewrite sec body).mem x = Memory.byte s.mem x :=
  Memory.byte_write_outside _ _ _ _ (by rw [length_sectionBytes]; exact h)

/-- Byte k of a rewritten section. -/
theorem State.byte_rewrite_inside (s : State) (sec : Section) (body : List Item) (k : Nat) (h : k < sec.size) :
    Memory.byte (s.rewrite sec body).mem (sec.base + k) =
      (sectionBytes sec ((s.headStamp sec + 1) % 65536) body).getD k 0 :=
  Memory.byte_write_inside _ _ _ _ (by rw [length_sectionBytes]; exact h)

theorem Memory.word_of_bytes {m : Memory} {a n : Nat} (hn : n < 65536) (h0 : Memory.byte m a = BitVec.ofNat 8 n)
    (h1 : Memory.byte m (a + 1) = BitVec.ofNat 8 (n / 256)) (h2 : Memory.byte m (a + 2) = BitVec.ofNat 8 (n / 65536))
    (h3 : Memory.byte m (a + 3) = BitVec.ofNat 8 (n / 16777216)) : Memory.word m a = n := by
  simp only [Memory.word, Memory.half, h0, h1, h2, show a + 2 + 1 = a + 3 from rfl, h3, BitVec.toNat_ofNat]
  omega

/-- R161: the tail stamp word of a rewritten section is one up from the head stamp that stood. -/
theorem State.word_rewrite_tail (s : State) (sec : Section) (body : List Item) :
    Memory.word (s.rewrite sec body).mem sec.base = (s.headStamp sec + 1) % 65536 := by
  have hs : 4 ≤ sec.size := by cases sec <;> decide
  refine Memory.word_of_bytes (by omega) ?_ ?_ ?_ ?_ <;>
    first | refine (State.byte_rewrite_inside s sec body 0 (by omega)).trans ?_; rfl
          | refine (State.byte_rewrite_inside s sec body 1 (by omega)).trans ?_; rfl
          | refine (State.byte_rewrite_inside s sec body 2 (by omega)).trans ?_; rfl
          | refine (State.byte_rewrite_inside s sec body 3 (by omega)).trans ?_; rfl

theorem getD_sectionBytes_head (sec : Section) (stamp : Nat) (body : List Item) (k : Nat) :
    (sectionBytes sec stamp body).getD (sec.size - 4 + k) 0 = (bytes32 stamp).getD k 0 := by
  have hl : (bytes32 stamp ++ fitBytes (sec.size - 8) (packItems 4 body)).length = sec.size - 4 := by
    cases sec <;> simp [bytes32, length_fitBytes, Section.size]
  unfold sectionBytes
  rw [← List.append_assoc, List.getD_eq_getElem?_getD, List.getElem?_append_right (by omega), hl,
    Nat.add_sub_cancel_left, List.getD_eq_getElem?_getD]

/-- R161: the head stamp word of a rewritten section is the same. -/
theorem State.word_rewrite_head (s : State) (sec : Section) (body : List Item) :
    Memory.word (s.rewrite sec body).mem (sec.base + sec.size - 4) = (s.headStamp sec + 1) % 65536 := by
  have hs : 8 ≤ sec.size := by cases sec <;> decide
  have hb : ∀ k, k < 4 → Memory.byte (s.rewrite sec body).mem (sec.base + sec.size - 4 + k) =
      (bytes32 ((s.headStamp sec + 1) % 65536)).getD k 0 := by
    intro k hk
    have h := State.byte_rewrite_inside s sec body (sec.size - 4 + k) (by omega)
    rw [getD_sectionBytes_head] at h
    rw [← h]
    congr 1
    omega
  exact Memory.word_of_bytes (by omega) (hb 0 (by omega)) (hb 1 (by omega)) (hb 2 (by omega)) (hb 3 (by omega))

/-- A word whose four bytes stand as before reads as before. -/
theorem Memory.word_congr {m n : Memory} {a : Nat} (h : ∀ k, k < 4 → Memory.byte m (a + k) = Memory.byte n (a + k)) :
    Memory.word m a = Memory.word n a := by
  simp only [Memory.word, Memory.half, show a + 2 + 1 = a + 3 from rfl]
  rw [h 1 (by omega), h 2 (by omega), h 3 (by omega), show Memory.byte m a = Memory.byte n a from h 0 (by omega)]

end Sys2Proof.Machine
end

