-- ==== Sys2Proof/Laws/Journal.lean ====
section
/-! SUPPORT. Laws/Journal.lean: what a record handed to JRW can do: to the journal's own fields, to exchange memory, to
the attention record and to HEALTH. -/

namespace Sys2Proof.Machine

/-- The law of the journal's counts on JRW's record alone (State.journalLaw). -/
def Jrw.law (j : Jrw) : Prop :=
  j.occupied = (j.w - j.rel).toNat ∧ j.occupied ≤ 64 ∧ j.free = 64 - j.occupied ∧
  (j.warning = true ↔ j.free ≤ j.group.warningLevel)

theorem Jrw.law_recount {j : Jrw} (h : (j.w - j.rel).toNat ≤ 64) : j.recount.law := by
  exact ⟨rfl, h, rfl, by simp [Jrw.recount]⟩

theorem Jrw.law_judged {j : Jrw} (h : (j.w - j.rel).toNat ≤ 64) (v : Half) : (j.judged v).law := by
  unfold Jrw.judged
  split
  · rename_i hv
    exact Jrw.law_recount (j := { j with rel := v }) hv
  · exact Jrw.law_recount (j := { j with ignored := count16 j.ignored }) h

/-- One count further, away from the wrap. -/
theorem succ_distance (w r : Half) (h : (w - r).toNat < 65535) : (w + 1 - r).toNat = (w - r).toNat + 1 := by
  rw [BitVec.toNat_sub, BitVec.toNat_add] at *
  have := w.isLt
  have := r.isLt
  simp at *
  omega

/-- One more record, when there is room for it. -/
theorem Jrw.law_written {j : Jrw} (h : j.law) (hf : j.free ≠ 0) : ({ j with w := j.w + 1 }.recount).law := by
  obtain ⟨h1, h2, h3, _⟩ := h
  refine Jrw.law_recount ?_
  show (j.w + 1 - j.rel).toNat ≤ 64
  rw [succ_distance _ _ (by omega)]
  omega

/-! ### The judgement of the journal's room -/

theorem State.judgeRoom_jrw (s : State) :
    s.judgeRoom.jrw = s.jrw.judged (BitVec.ofNat 16 (Memory.half s.mem releaseAddress)) := by
  unfold State.judgeRoom
  dsimp only
  split <;> rfl

theorem State.judgeRoom_atc (s : State) :
    s.judgeRoom.atc = s.atc.follow .journal (decide (0 < s.judgeRoom.jrw.occupied)) := by
  unfold State.judgeRoom
  dsimp only
  split <;> rfl

/-- A judgement rewrites the journal section or no memory at all. -/
theorem State.judgeRoom_mem (s : State) :
    s.judgeRoom.mem = s.mem ∨ ∃ t : State, s.judgeRoom.mem = t.rewriteJournal.mem ∧ t.mem = s.mem := by
  unfold State.judgeRoom
  dsimp only
  split
  · exact Or.inl rfl
  · exact Or.inr ⟨_, rfl, rfl⟩

/-! ### A record written or dropped -/

theorem State.writeRecord_jrw (s : State) (r : Record) :
    (s.writeRecord r).jrw = { s.jrw with w := s.jrw.w + 1 }.recount := rfl

theorem State.writeRecord_atc (s : State) (r : Record) :
    (s.writeRecord r).atc = s.atc.follow .journal (decide (0 < (s.writeRecord r).jrw.occupied)) := rfl

theorem State.dropRecord_jrw (s : State) : s.dropRecord.jrw = { s.jrw with drops := count16 s.jrw.drops } := rfl

/-- Where the journal's next record goes. -/
theorem journalSlot_le (w : Half) : journalBase + 16 * (w.toNat % 64) + 16 ≤ 0x1800 := by
  have := Nat.mod_lt w.toNat (show 0 < 64 by decide)
  simp only [journalBase]
  omega

/-- A record is stored in its slot, then the journal section is rewritten. -/
theorem State.writeRecord_mem (s : State) (r : Record) : ∃ t : State, (s.writeRecord r).mem = t.rewriteJournal.mem ∧
    t.mem = Memory.write s.mem (journalBase + 16 * (s.jrw.w.toNat % 64)) (r.bytes s.ms) :=
  ⟨_, rfl, rfl⟩

/-- The record written stands in its slot. -/
theorem State.writeRecord_byte (s : State) (r : Record) (k : Nat) (hk : k < 16) :
    Memory.byte (s.writeRecord r).mem (journalBase + 16 * (s.jrw.w.toNat % 64) + k) = (r.bytes s.ms).getD k 0 := by
  obtain ⟨t, h1, h2⟩ := s.writeRecord_mem r
  rw [h1, State.rewriteJournal_mem, State.byte_rewrite, h2]
  · exact Memory.byte_write_inside _ _ _ _ (by rw [length_recordBytes]; exact hk)
  · right
    simp only [Section.base, Section.size, journalBase]
    omega

/-- A record written touches its slot and the journal section alone. -/
theorem State.writeRecord_byte_outside (s : State) (r : Record) (x : Nat)
    (h : x < 0x13C0 ∨ 0x1400 ≤ x) (h2 : x < journalBase + 16 * (s.jrw.w.toNat % 64) ∨
      journalBase + 16 * (s.jrw.w.toNat % 64) + 16 ≤ x) :
    Memory.byte (s.writeRecord r).mem x = Memory.byte s.mem x := by
  obtain ⟨t, h3, h4⟩ := s.writeRecord_mem r
  rw [h3, State.rewriteJournal_mem, State.byte_rewrite _ _ _ _ h, h4]
  exact Memory.byte_write_outside _ _ _ _ (by rw [length_recordBytes]; exact h2)

theorem State.wf_writeRecord {s : State} (h : Memory.wf s.mem = true) (r : Record) :
    Memory.wf (s.writeRecord r).mem = true := by
  obtain ⟨t, h1, h2⟩ := s.writeRecord_mem r
  rw [h1]
  refine State.wf_rewrite ?_ _ _
  rw [h2]
  refine Memory.wf_write h _ _ ?_
  have := journalSlot_le s.jrw.w
  rw [length_recordBytes]
  simp only [registerBase]
  omega

/-! ### What is kept by a record handed to JRW -/

/-- A property of the parts that a record can touch (memory, the attention record and JRW's own record) which the
judgement of the room, a record written in a journal that has room, a rewrite of JRW's section and a change of the drop
count keep. -/
structure KeptByRecords (P : Memory → Atc → Jrw → Prop) : Prop where
  judge : ∀ s : State, P s.mem s.atc s.jrw → P s.judgeRoom.mem s.judgeRoom.atc s.judgeRoom.jrw
  write : ∀ (s : State) (r : Record), s.jrw.free ≠ 0 → P s.mem s.atc s.jrw →
    P (s.writeRecord r).mem (s.writeRecord r).atc (s.writeRecord r).jrw
  rewrite : ∀ s : State, P s.mem s.atc s.jrw → P s.rewriteJournal.mem s.atc s.jrw
  count : ∀ (m : Memory) (a : Atc) (j : Jrw) (n : Nat), P m a j → P m a { j with drops := n }
  law : ∀ (m : Memory) (a : Atc) (j : Jrw), P m a j → j.law

theorem KeptByRecords.drop {P : Memory → Atc → Jrw → Prop} (k : KeptByRecords P) {s : State}
    (h : P s.mem s.atc s.jrw) : P s.dropRecord.mem s.dropRecord.atc s.dropRecord.jrw :=
  k.rewrite { s with jrw := { s.jrw with drops := count16 s.jrw.drops }
                     health := { s.health with journalDrop := true } } (k.count _ _ _ _ h)

theorem KeptByRecords.place {P : Memory → Atc → Jrw → Prop} (k : KeptByRecords P) {s : State}
    (h : P s.mem s.atc s.jrw) (r : Record) :
    P (s.placeRecord r).mem (s.placeRecord r).atc (s.placeRecord r).jrw := by
  unfold State.placeRecord
  split
  · exact k.drop h
  · rename_i hf
    split
    · exact k.write s r hf h
    · split
      · exact k.rewrite _ (k.write { s with jrw := { s.jrw with drops := 0 }
                                            health := { s.health with journalDrop := true } } _ hf (k.count _ _ _ _ h))
      · rename_i h1
        have h0 := k.write { s with jrw := { s.jrw with drops := 0 } } (gapRecord s.jrw.drops) hf (k.count _ _ _ _ h)
        refine k.write _ r ?_ h0
        have hl := k.law _ _ _ h
        have hl2 := k.law _ _ _ h0
        obtain ⟨l1, l2, l3, _⟩ := hl
        obtain ⟨g1, g2, g3, _⟩ := hl2
        rw [g3]
        intro hz
        have hw : ({ s with jrw := { s.jrw with drops := 0 } }.writeRecord (gapRecord s.jrw.drops)).jrw.occupied
            = (s.jrw.w + 1 - s.jrw.rel).toNat := rfl
        rw [hw, succ_distance _ _ (by omega)] at hz
        omega

/-- What the four keep, a record handed keeps. -/
theorem KeptByRecords.hand {P : Memory → Atc → Jrw → Prop} (k : KeptByRecords P) {s : State}
    (h : P s.mem s.atc s.jrw) (r : Record) : P (s.hand r).mem (s.hand r).atc (s.hand r).jrw := by
  unfold State.hand
  split
  · exact k.place (k.judge s h) r
  · exact h

/-- The same for a property that a record written keeps whatever the journal's counts are. -/
theorem keptByRecord {P : Memory → Atc → Jrw → Prop}
    (judge : ∀ s : State, P s.mem s.atc s.jrw → P s.judgeRoom.mem s.judgeRoom.atc s.judgeRoom.jrw)
    (write : ∀ (s : State) (r : Record), P s.mem s.atc s.jrw →
      P (s.writeRecord r).mem (s.writeRecord r).atc (s.writeRecord r).jrw)
    (rewrite : ∀ s : State, P s.mem s.atc s.jrw → P s.rewriteJournal.mem s.atc s.jrw)
    (count : ∀ (m : Memory) (a : Atc) (j : Jrw) (n : Nat), P m a j → P m a { j with drops := n })
    {s : State} (h : P s.mem s.atc s.jrw) (r : Record) : P (s.hand r).mem (s.hand r).atc (s.hand r).jrw := by
  unfold State.hand
  split
  · have h' := judge s h
    unfold State.placeRecord
    split
    · exact rewrite { s.judgeRoom with jrw := { s.judgeRoom.jrw with drops := count16 s.judgeRoom.jrw.drops }
                                       health := { s.judgeRoom.health with journalDrop := true } } (count _ _ _ _ h')
    · split
      · exact write _ r h'
      · split
        · exact rewrite _ (write { s.judgeRoom with jrw := { s.judgeRoom.jrw with drops := 0 }
                                                    health := { s.judgeRoom.health with journalDrop := true } } _
            (count _ _ _ _ h'))
        · exact write _ r (write { s.judgeRoom with jrw := { s.judgeRoom.jrw with drops := 0 } } _ (count _ _ _ _ h'))
  · exact h

end Sys2Proof.Machine
end

