-- ==== Sys2Proof/WellFormed.lean ====
section
/-! DEFINITION. WellFormed.lean: the check a command passes before it means anything. The operand types leave two
things to check: that a port command is an event of the port at all, and that a row's transaction begins with no command
byte of the other row. -/

namespace Sys2Proof

/-- R158: a part of a transaction asserts select, sends a byte or deasserts select. A command that does none of the three
names no event of the port. A READ begins with no WRITE command byte and a WRITE with no READ command byte: `other`. -/
def PortPart.wellFormed (other : Byte) (select : Bool) (bytes : List Byte) (ends : Bool) : Bool :=
  (select || 0 < bytes.length || ends) && !(select && bytes.head? == some other)

/-- The well-formed commands. -/
def Instr.wellFormed : Instr → Bool
  | .read _ select bytes ends => PortPart.wellFormed 0x6E select bytes ends
  | .write _ select bytes ends => PortPart.wellFormed 0x6C select bytes ends
  | .powerOnReset _ | .nresetAsserted _ | .nresetReleased _ | .loadCompletion _ | .sampleCompletion _ _ _
  | .staleTimerExpiry _ _ | .recoveryTimerExpiry _ _ | .sfeSectionTimerExpiry _ | .lduPeriodExpiry _
  | .moveTimerExpiry _ | .windowExpiry _ _ | .edgeArrival _ _ | .dumpOutletOpening _ _ | .holdTimerExpiry _ _
  | .stepTimerExpiry _ _ | .valvePeriodExpiry _ | .pulseOpening _ _ | .pulseEnd _ _ | .driverReport _ _ _ _
  | .evaluationExpiry _ | .characterArrival _ _ _ _ | .gapTimerExpiry _ | .cdDeasserted _ | .silenceScan _
  | .healthRead _ | .attnPoll _ | .attnEnd _ _ | .attnMaskWrite _ _ | .takeVehicle _ | .takeLoad _ | .takeSlip _
  | .takeValve _ | .takeRoll _ | .takeTyre _ | .takeAir _ | .takeReport _ | .takeClearFaults _
  | .registerWriteIgnored _ _ _ | .cdAsserted _ => true

end Sys2Proof
end

