-- ==== Sys2Proof/Laws/PerInstr.lean ====
section
/-! SUPPORT. Laws/PerInstr.lean: what holds of every command as syntax, one lemma for each constructor: every command
carries its time (log 1), the time can be exchanged for any other without touching the other operands, and whether the
command is well formed does not depend on it. -/

namespace Sys2Proof.Laws

/-- The command with its time exchanged. -/
def withTime (time : Nat) : Instr → Instr
  | .powerOnReset _ => .powerOnReset time
  | .nresetAsserted _ => .nresetAsserted time
  | .nresetReleased _ => .nresetReleased time
  | .loadCompletion _ => .loadCompletion time
  | .sampleCompletion _ input counts => .sampleCompletion time input counts
  | .staleTimerExpiry _ input => .staleTimerExpiry time input
  | .recoveryTimerExpiry _ input => .recoveryTimerExpiry time input
  | .sfeSectionTimerExpiry _ => .sfeSectionTimerExpiry time
  | .lduPeriodExpiry _ => .lduPeriodExpiry time
  | .moveTimerExpiry _ => .moveTimerExpiry time
  | .windowExpiry _ circuits => .windowExpiry time circuits
  | .edgeArrival _ wheel => .edgeArrival time wheel
  | .dumpOutletOpening _ channel => .dumpOutletOpening time channel
  | .holdTimerExpiry _ channel => .holdTimerExpiry time channel
  | .stepTimerExpiry _ channel => .stepTimerExpiry time channel
  | .valvePeriodExpiry _ => .valvePeriodExpiry time
  | .pulseOpening _ channel => .pulseOpening time channel
  | .pulseEnd _ channel => .pulseEnd time channel
  | .driverReport _ channel valve indication => .driverReport time channel valve indication
  | .evaluationExpiry _ => .evaluationExpiry time
  | .characterArrival _ data parityGood stopGood => .characterArrival time data parityGood stopGood
  | .gapTimerExpiry _ => .gapTimerExpiry time
  | .cdDeasserted _ => .cdDeasserted time
  | .silenceScan _ => .silenceScan time
  | .read _ select bytes ends => .read time select bytes ends
  | .write _ select bytes ends => .write time select bytes ends
  | .healthRead _ => .healthRead time
  | .attnPoll _ => .attnPoll time
  | .attnEnd _ value => .attnEnd time value
  | .attnMaskWrite _ value => .attnMaskWrite time value
  | .takeVehicle _ => .takeVehicle time
  | .takeLoad _ => .takeLoad time
  | .takeSlip _ => .takeSlip time
  | .takeValve _ => .takeValve time
  | .takeRoll _ => .takeRoll time
  | .takeTyre _ => .takeTyre time
  | .takeAir _ => .takeAir time
  | .takeReport _ => .takeReport time
  | .takeClearFaults _ => .takeClearFaults time
  | .registerWriteIgnored _ register value => .registerWriteIgnored time register value
  | .cdAsserted _ => .cdAsserted time

/-- The family's statement: exchanging the time sets it, exchanging it back gives the command, and well-formedness is
that of the command. -/
def Timed.Statement (i : Instr) : Prop :=
  ∀ time : Nat, Machine.commandTime (withTime time i) = time ∧
    withTime (Machine.commandTime i) (withTime time i) = i ∧
    (withTime time i).wellFormed = i.wellFormed

theorem Timed.powerOnReset (dt : Nat) : Timed.Statement (.powerOnReset dt) := fun _ => ⟨rfl, rfl, rfl⟩

theorem Timed.nresetAsserted (dt : Nat) : Timed.Statement (.nresetAsserted dt) := fun _ => ⟨rfl, rfl, rfl⟩

theorem Timed.nresetReleased (dt : Nat) : Timed.Statement (.nresetReleased dt) := fun _ => ⟨rfl, rfl, rfl⟩

theorem Timed.loadCompletion (dt : Nat) : Timed.Statement (.loadCompletion dt) := fun _ => ⟨rfl, rfl, rfl⟩

theorem Timed.sampleCompletion (dt : Nat) (input : Input) (counts : BitVec 12) :
    Timed.Statement (.sampleCompletion dt input counts) :=
  fun _ => ⟨rfl, rfl, rfl⟩

theorem Timed.staleTimerExpiry (dt : Nat) (input : Input) : Timed.Statement (.staleTimerExpiry dt input) :=
  fun _ => ⟨rfl, rfl, rfl⟩

theorem Timed.recoveryTimerExpiry (dt : Nat) (input : Input) : Timed.Statement (.recoveryTimerExpiry dt input) :=
  fun _ => ⟨rfl, rfl, rfl⟩

theorem Timed.sfeSectionTimerExpiry (dt : Nat) : Timed.Statement (.sfeSectionTimerExpiry dt) :=
  fun _ => ⟨rfl, rfl, rfl⟩

theorem Timed.lduPeriodExpiry (dt : Nat) : Timed.Statement (.lduPeriodExpiry dt) := fun _ => ⟨rfl, rfl, rfl⟩

theorem Timed.moveTimerExpiry (dt : Nat) : Timed.Statement (.moveTimerExpiry dt) := fun _ => ⟨rfl, rfl, rfl⟩

theorem Timed.windowExpiry (dt : Nat) (circuits : PerWheel Circuit) : Timed.Statement (.windowExpiry dt circuits) :=
  fun _ => ⟨rfl, rfl, rfl⟩

theorem Timed.edgeArrival (dt : Nat) (wheel : Wheel) : Timed.Statement (.edgeArrival dt wheel) :=
  fun _ => ⟨rfl, rfl, rfl⟩

theorem Timed.dumpOutletOpening (dt : Nat) (channel : Channel) : Timed.Statement (.dumpOutletOpening dt channel) :=
  fun _ => ⟨rfl, rfl, rfl⟩

theorem Timed.holdTimerExpiry (dt : Nat) (channel : Channel) : Timed.Statement (.holdTimerExpiry dt channel) :=
  fun _ => ⟨rfl, rfl, rfl⟩

theorem Timed.stepTimerExpiry (dt : Nat) (channel : Channel) : Timed.Statement (.stepTimerExpiry dt channel) :=
  fun _ => ⟨rfl, rfl, rfl⟩

theorem Timed.valvePeriodExpiry (dt : Nat) : Timed.Statement (.valvePeriodExpiry dt) := fun _ => ⟨rfl, rfl, rfl⟩

theorem Timed.pulseOpening (dt : Nat) (channel : Channel) : Timed.Statement (.pulseOpening dt channel) :=
  fun _ => ⟨rfl, rfl, rfl⟩

theorem Timed.pulseEnd (dt : Nat) (channel : Channel) : Timed.Statement (.pulseEnd dt channel) :=
  fun _ => ⟨rfl, rfl, rfl⟩

theorem Timed.driverReport (dt : Nat) (channel : Channel) (valve : Valve) (indication : Indication) :
    Timed.Statement (.driverReport dt channel valve indication) :=
  fun _ => ⟨rfl, rfl, rfl⟩

theorem Timed.evaluationExpiry (dt : Nat) : Timed.Statement (.evaluationExpiry dt) := fun _ => ⟨rfl, rfl, rfl⟩

theorem Timed.characterArrival (dt : Nat) (data : Byte) (parityGood stopGood : Bool) :
    Timed.Statement (.characterArrival dt data parityGood stopGood) :=
  fun _ => ⟨rfl, rfl, rfl⟩

theorem Timed.gapTimerExpiry (dt : Nat) : Timed.Statement (.gapTimerExpiry dt) := fun _ => ⟨rfl, rfl, rfl⟩

theorem Timed.cdDeasserted (dt : Nat) : Timed.Statement (.cdDeasserted dt) := fun _ => ⟨rfl, rfl, rfl⟩

theorem Timed.silenceScan (dt : Nat) : Timed.Statement (.silenceScan dt) := fun _ => ⟨rfl, rfl, rfl⟩

theorem Timed.read (dt : Nat) (select : Bool) (bytes : List Byte) (ends : Bool) :
    Timed.Statement (.read dt select bytes ends) :=
  fun _ => ⟨rfl, rfl, rfl⟩

theorem Timed.write (dt : Nat) (select : Bool) (bytes : List Byte) (ends : Bool) :
    Timed.Statement (.write dt select bytes ends) :=
  fun _ => ⟨rfl, rfl, rfl⟩

theorem Timed.healthRead (dt : Nat) : Timed.Statement (.healthRead dt) := fun _ => ⟨rfl, rfl, rfl⟩

theorem Timed.attnPoll (dt : Nat) : Timed.Statement (.attnPoll dt) := fun _ => ⟨rfl, rfl, rfl⟩

theorem Timed.attnEnd (dt : Nat) (value : Half) : Timed.Statement (.attnEnd dt value) := fun _ => ⟨rfl, rfl, rfl⟩

theorem Timed.attnMaskWrite (dt : Nat) (value : Half) : Timed.Statement (.attnMaskWrite dt value) :=
  fun _ => ⟨rfl, rfl, rfl⟩

theorem Timed.takeVehicle (dt : Nat) : Timed.Statement (.takeVehicle dt) := fun _ => ⟨rfl, rfl, rfl⟩

theorem Timed.takeLoad (dt : Nat) : Timed.Statement (.takeLoad dt) := fun _ => ⟨rfl, rfl, rfl⟩

theorem Timed.takeSlip (dt : Nat) : Timed.Statement (.takeSlip dt) := fun _ => ⟨rfl, rfl, rfl⟩

theorem Timed.takeValve (dt : Nat) : Timed.Statement (.takeValve dt) := fun _ => ⟨rfl, rfl, rfl⟩

theorem Timed.takeRoll (dt : Nat) : Timed.Statement (.takeRoll dt) := fun _ => ⟨rfl, rfl, rfl⟩

theorem Timed.takeTyre (dt : Nat) : Timed.Statement (.takeTyre dt) := fun _ => ⟨rfl, rfl, rfl⟩

theorem Timed.takeAir (dt : Nat) : Timed.Statement (.takeAir dt) := fun _ => ⟨rfl, rfl, rfl⟩

theorem Timed.takeReport (dt : Nat) : Timed.Statement (.takeReport dt) := fun _ => ⟨rfl, rfl, rfl⟩

theorem Timed.takeClearFaults (dt : Nat) : Timed.Statement (.takeClearFaults dt) := fun _ => ⟨rfl, rfl, rfl⟩

theorem Timed.registerWriteIgnored (dt : Nat) (register : ReadOnlyRegister) (value : Half) :
    Timed.Statement (.registerWriteIgnored dt register value) :=
  fun _ => ⟨rfl, rfl, rfl⟩

theorem Timed.cdAsserted (dt : Nat) : Timed.Statement (.cdAsserted dt) := fun _ => ⟨rfl, rfl, rfl⟩

end Sys2Proof.Laws
end

