-- ==== Sys2Proof/Laws/Reports.lean ====
section
/-! SUPPORT. Laws/Reports.lean: what the operations of every block can do to exchange memory, the attention record and
the journal: they rewrite sections, raise levels, hold the conditions of SUPPLY and DEMAND, hand records and have the
journal's room judged, and nothing else. What those five keep, every operation keeps. -/

namespace Sys2Proof.Machine

/-- Memory, attention record and journal come from earlier ones by the five things an operation can do to them; the
sections rewritten are among those of `P`. -/
inductive Reports (P : Section → Prop) (m0 : Memory) (a0 : Atc) (j0 : Jrw) : Memory → Atc → Jrw → Prop where
  | same : Reports P m0 a0 j0 m0 a0 j0
  | rewrite (s : State) (sec : Section) (body : List Item) (hp : P sec) {a : Atc} {j : Jrw} :
      Reports P m0 a0 j0 s.mem a j → Reports P m0 a0 j0 (s.rewrite sec body).mem a j
  | raise (l : Level) (hl : l.isEdge = true) {m : Memory} {a : Atc} {j : Jrw} :
      Reports P m0 a0 j0 m a j → Reports P m0 a0 j0 m (a.raise l) j
  | hold (l : Level) (c : Bool) (hl : l = .supply ∨ l = .demand) {m : Memory} {a : Atc} {j : Jrw} :
      Reports P m0 a0 j0 m a j → Reports P m0 a0 j0 m (a.follow l c) j
  | judge (s : State) (hp : P .journal) : Reports P m0 a0 j0 s.mem s.atc s.jrw →
      Reports P m0 a0 j0 s.judgeRoom.mem s.judgeRoom.atc s.judgeRoom.jrw
  | hand (s : State) (r : Record) (hp : P .journal) : Reports P m0 a0 j0 s.mem s.atc s.jrw →
      Reports P m0 a0 j0 (s.hand r).mem (s.hand r).atc (s.hand r).jrw

section Kept

variable {P : Section → Prop} {m0 m : Memory} {a0 a : Atc} {j0 j : Jrw}

/-- Reports keep the canonical form of memory. -/
theorem Reports.wf (r : Reports P m0 a0 j0 m a j) (h : Memory.wf m0 = true) : Memory.wf m = true := by
  have judge : ∀ s : State, Memory.wf s.mem = true → Memory.wf s.judgeRoom.mem = true := by
    intro s hs
    rcases s.judgeRoom_mem with e | ⟨t, e, et⟩ <;> rw [e]
    · exact hs
    · exact State.wf_rewrite (by rw [et]; exact hs) _ _
  induction r with
  | same => exact h
  | rewrite s sec body hp _ ih => exact State.wf_rewrite ih sec body
  | raise l hl _ ih => exact ih
  | hold l c hl _ ih => exact ih
  | judge s hp _ ih => exact judge s ih
  | hand s r hp _ ih =>
    exact keptByRecord (P := fun m _ _ => Memory.wf m = true) judge (fun s r hs => State.wf_writeRecord hs r)
      (fun _ hs => State.wf_rewrite hs _ _) (fun _ _ _ _ hs => hs) ih r

/-- Reports leave every byte outside the sections of `P` and, when the journal's is among them, outside the journal. -/
theorem Reports.outside (r : Reports P m0 a0 j0 m a j) (x : Nat)
    (hx : ∀ sec, P sec → x < sec.base ∨ sec.base + sec.size ≤ x) (hj : P .journal → x < 0x1400 ∨ 0x1800 ≤ x) :
    Memory.byte m x = Memory.byte m0 x := by
  have judge : P .journal → ∀ s : State, Memory.byte s.mem x = Memory.byte m0 x →
      Memory.byte s.judgeRoom.mem x = Memory.byte m0 x := by
    intro hp s hs
    rcases s.judgeRoom_mem with e | ⟨t, e, et⟩ <;> rw [e]
    · exact hs
    · rw [State.rewriteJournal_mem, State.byte_rewrite _ _ _ _ (hx _ hp), et]; exact hs
  induction r with
  | same => rfl
  | rewrite s sec body hp _ ih => rw [State.byte_rewrite _ _ _ _ (hx _ hp)]; exact ih
  | raise l hl _ ih => exact ih
  | hold l c hl _ ih => exact ih
  | judge s hp _ ih => exact judge hp s ih
  | hand s r hp _ ih =>
    refine keptByRecord (P := fun m _ _ => Memory.byte m x = Memory.byte m0 x) (judge hp) (fun s r hs => ?_)
      (fun s hs => ?_) (fun _ _ _ _ hs => hs) ih r
    · have h1 := journalSlot_le s.jrw.w
      have h2 := hx _ hp
      have h3 := hj hp
      simp only [journalBase, Section.base, Section.size] at h1 h2
      rw [State.writeRecord_byte_outside _ _ _ (by omega) (by simp only [journalBase]; omega)]
      exact hs
    · exact (State.byte_rewrite _ _ _ _ (hx _ hp)).trans hs

/-- Reports leave nATTN standing as R171 says. -/
theorem Reports.attention (r : Reports P m0 a0 j0 m a j) (h : a0.law) : a.law := by
  induction r with
  | same => exact h
  | rewrite s sec body hp _ ih => exact ih
  | raise l hl _ ih => exact Atc.law_raise _ _
  | hold l c hl _ ih => exact Atc.law_follow ih _ _
  | judge s hp _ ih => rw [State.judgeRoom_atc]; exact Atc.law_follow ih _ _
  | hand s r hp _ ih =>
    exact keptByRecord (P := fun _ a _ => a.law) (fun s hs => by rw [State.judgeRoom_atc]; exact Atc.law_follow hs _ _)
      (fun s r hs => by rw [State.writeRecord_atc]; exact Atc.law_follow hs _ _) (fun _ hs => hs) (fun _ _ _ _ hs => hs)
      ih r

/-- Reports leave the level sources standing as R168 says. -/
theorem Reports.sources (r : Reports P m0 a0 j0 m a j) (h : a0.sourceLaw) : a.sourceLaw := by
  induction r with
  | same => exact h
  | rewrite s sec body hp _ ih => exact ih
  | raise l hl _ ih => exact Atc.sourceLaw_raise ih l hl
  | hold l c hl _ ih => exact Atc.sourceLaw_follow ih l c (by rcases hl with rfl | rfl <;> rfl)
  | judge s hp _ ih => rw [State.judgeRoom_atc]; exact Atc.sourceLaw_follow ih _ _ rfl
  | hand s r hp _ ih =>
    exact keptByRecord (P := fun _ a _ => a.sourceLaw)
      (fun s hs => by rw [State.judgeRoom_atc]; exact Atc.sourceLaw_follow hs _ _ rfl)
      (fun s r hs => by rw [State.writeRecord_atc]; exact Atc.sourceLaw_follow hs _ _ rfl) (fun _ hs => hs)
      (fun _ _ _ _ hs => hs) ih r

/-- Reports keep the law of the journal's counts, with the JOURNAL condition standing as occupied above 0. -/
theorem Reports.journal (r : Reports P m0 a0 j0 m a j) (h : j0.law ∧ a0.journal = decide (0 < j0.occupied)) :
    j.law ∧ a.journal = decide (0 < j.occupied) := by
  have judge : ∀ s : State, s.jrw.law → s.judgeRoom.jrw.law := by
    intro s hs
    rw [State.judgeRoom_jrw]
    exact Jrw.law_judged (by obtain ⟨h1, h2, _⟩ := hs; omega) _
  induction r with
  | same => exact h
  | rewrite s sec body hp _ ih => exact ih
  | raise l hl _ ih => exact ⟨ih.1, by cases l <;> exact ih.2⟩
  | hold l c hl _ ih =>
    refine ⟨ih.1, ?_⟩
    rw [← ih.2]
    unfold Atc.follow
    rcases hl with rfl | rfl <;> (repeat' split) <;> rfl
  | judge s hp _ ih => exact ⟨judge s ih.1, by rw [State.judgeRoom_atc]; exact Atc.journal_follow _ _⟩
  | hand s r hp _ ih =>
    exact KeptByRecords.hand (P := fun _ a j => j.law ∧ a.journal = decide (0 < j.occupied))
      { judge := fun s hs => ⟨judge s hs.1, by rw [State.judgeRoom_atc]; exact Atc.journal_follow _ _⟩
        write := fun s r hf hs => ⟨Jrw.law_written hs.1 hf, by rw [State.writeRecord_atc]; exact Atc.journal_follow _ _⟩
        rewrite := fun _ hs => hs
        count := fun _ _ _ _ hs => hs
        law := fun _ _ _ hs => hs.1 } ih r

/-- Reports leave the mask and the levels in service, and no level of an edge source leaves the pending set. -/
theorem Reports.sets (r : Reports P m0 a0 j0 m a j) : a.mask = a0.mask ∧ a.inService = a0.inService ∧
    ∀ l : Level, l.isEdge = true → a0.pending.get l = true → a.pending.get l = true := by
  have follow : ∀ (b : Atc) (k : Level) (c : Bool), k.isEdge = false →
      (b.mask = a0.mask ∧ b.inService = a0.inService ∧
        ∀ l : Level, l.isEdge = true → a0.pending.get l = true → b.pending.get l = true) →
      (b.follow k c).mask = a0.mask ∧ (b.follow k c).inService = a0.inService ∧
        ∀ l : Level, l.isEdge = true → a0.pending.get l = true → (b.follow k c).pending.get l = true := by
    intro b k c hk hb
    refine ⟨by simp [hb.1], by simp [hb.2.1], fun l hl hp => ?_⟩
    rw [Atc.follow_pending _ _ _ _ (by rintro rfl; rw [hl] at hk; exact absurd hk (by decide))]
    exact hb.2.2 l hl hp
  induction r with
  | same => exact ⟨rfl, rfl, fun _ _ h => h⟩
  | rewrite s sec body hp _ ih => exact ih
  | raise k hk _ ih =>
    refine ⟨ih.1, ih.2.1, fun l hl h => ?_⟩
    have h2 := ih.2.2 l hl h
    rw [Atc.raise_pending]
    by_cases e : l = k
    · subst e; cases l <;> rfl
    · rw [← h2]; cases l <;> cases k <;> rfl
  | hold k c hl _ ih => exact follow _ k c (by rcases hl with rfl | rfl <;> rfl) ih
  | judge s hp _ ih => rw [State.judgeRoom_atc]; exact follow _ _ _ rfl ih
  | hand s r hp _ ih =>
    exact keptByRecord (P := fun _ b _ => b.mask = a0.mask ∧ b.inService = a0.inService ∧
        ∀ l : Level, l.isEdge = true → a0.pending.get l = true → b.pending.get l = true)
      (fun s hs => by rw [State.judgeRoom_atc]; exact follow _ _ _ rfl hs)
      (fun s r hs => by rw [State.writeRecord_atc]; exact follow _ _ _ rfl hs) (fun _ hs => hs)
      (fun _ _ _ _ hs => hs) ih r

/-! ### The five as rewriting rules -/

@[simp] theorem Reports.of_rewrite (s : State) (sec : Section) (body : List Item) (hp : P sec)
    (h : Reports P m0 a0 j0 s.mem a j) :
    Reports P m0 a0 j0 (s.rewrite sec body).mem a j := .rewrite s sec body hp h

@[simp] theorem Reports.of_fault (h : Reports P m0 a0 j0 m a j) : Reports P m0 a0 j0 m (a.raise .fault) j := .raise _ rfl h

@[simp] theorem Reports.of_roll (h : Reports P m0 a0 j0 m a j) : Reports P m0 a0 j0 m (a.raise .roll) j := .raise _ rfl h

@[simp] theorem Reports.of_slip (h : Reports P m0 a0 j0 m a j) : Reports P m0 a0 j0 m (a.raise .slip) j := .raise _ rfl h

@[simp] theorem Reports.of_tyre (h : Reports P m0 a0 j0 m a j) : Reports P m0 a0 j0 m (a.raise .tyre) j := .raise _ rfl h

@[simp] theorem Reports.of_take (h : Reports P m0 a0 j0 m a j) : Reports P m0 a0 j0 m (a.raise .take) j := .raise _ rfl h

@[simp] theorem Reports.of_supply (c : Bool) (h : Reports P m0 a0 j0 m a j) :
    Reports P m0 a0 j0 m (a.follow .supply c) j := .hold _ c (Or.inl rfl) h

@[simp] theorem Reports.of_demand (c : Bool) (h : Reports P m0 a0 j0 m a j) :
    Reports P m0 a0 j0 m (a.follow .demand c) j := .hold _ c (Or.inr rfl) h

@[simp] theorem Reports.of_judge (s : State) (hp : P .journal) (h : Reports P m0 a0 j0 s.mem s.atc s.jrw) :
    Reports P m0 a0 j0 s.judgeRoom.mem s.judgeRoom.atc s.judgeRoom.jrw := .judge s hp h

@[simp] theorem Reports.of_hand (s : State) (r : Record) (hp : P .journal) (h : Reports P m0 a0 j0 s.mem s.atc s.jrw) :
    Reports P m0 a0 j0 (s.hand r).mem (s.hand r).atc (s.hand r).jrw := .hand s r hp h

end Kept

/-! ### The operations of the blocks -/

section Operations

variable {P : Section → Prop} {m0 : Memory} {a0 : Atc} {j0 : Jrw}

@[simp] theorem State.takeOutcome_reports (s : State) (r : Request) (o : Outcome) (h0 : P .device) (h10 : P .journal)
    (h : Reports P m0 a0 j0 s.mem s.atc s.jrw) :
    Reports P m0 a0 j0 (s.takeOutcome r o).mem (s.takeOutcome r o).atc (s.takeOutcome r o).jrw := by
  generalize hu : s.takeOutcome r o = t
  unfold State.takeOutcome at hu
  try dsimp only at hu
  subst hu
  simp (maxDischargeDepth := 20) [*]

@[simp] theorem State.reportDevice_reports (s : State) (d : Device) (h0 : P .device) (h10 : P .journal)
    (h : Reports P m0 a0 j0 s.mem s.atc s.jrw) :
    Reports P m0 a0 j0 (s.reportDevice d).mem (s.reportDevice d).atc (s.reportDevice d).jrw := by
  generalize hu : s.reportDevice d = t
  unfold State.reportDevice at hu
  try dsimp only at hu
  subst hu
  simp (maxDischargeDepth := 20) [*]

@[simp] theorem State.answerRequest_reports (s : State) (n : AllowanceName) (h9 : P .air) (h10 : P .journal)
    (h : Reports P m0 a0 j0 s.mem s.atc s.jrw) :
    Reports P m0 a0 j0 (s.answerRequest n).mem (s.answerRequest n).atc (s.answerRequest n).jrw := by
  generalize hu : s.answerRequest n = t
  unfold State.answerRequest at hu
  try dsimp only at hu
  (repeat' split at hu) <;> (subst hu; simp (maxDischargeDepth := 20) [*])

@[simp] theorem State.adoptAirGroup_reports (s : State) (g : AirGroup) (h10 : P .journal)
    (h : Reports P m0 a0 j0 s.mem s.atc s.jrw) :
    Reports P m0 a0 j0 (s.adoptAirGroup g).mem (s.adoptAirGroup g).atc (s.adoptAirGroup g).jrw := by
  generalize hu : s.adoptAirGroup g = t
  unfold State.adoptAirGroup at hu
  try dsimp only at hu
  (repeat' split at hu) <;> (subst hu; simp (maxDischargeDepth := 20) [*])

@[simp] theorem State.adoptAir_reports (s : State) (h0 : P .device) (h10 : P .journal)
    (h : Reports P m0 a0 j0 s.mem s.atc s.jrw) :
    Reports P m0 a0 j0 s.adoptAir.mem s.adoptAir.atc s.adoptAir.jrw := by
  generalize hu : s.adoptAir = t
  unfold State.adoptAir at hu
  try dsimp only at hu
  (repeat' split at hu) <;> (subst hu; simp (maxDischargeDepth := 20) [*])

@[simp] theorem State.judgeCritical_reports (s : State) (h10 : P .journal)
    (h : Reports P m0 a0 j0 s.mem s.atc s.jrw) :
    Reports P m0 a0 j0 s.judgeCritical.mem s.judgeCritical.atc s.judgeCritical.jrw := by
  generalize hu : s.judgeCritical = t
  unfold State.judgeCritical at hu
  try dsimp only at hu
  (repeat' split at hu) <;> (subst hu; simp (maxDischargeDepth := 20) [*])

@[simp] theorem State.reloadRecord_reports (s : State) (x : Int) (n : AllowanceName) (h10 : P .journal)
    (h : Reports P m0 a0 j0 s.mem s.atc s.jrw) :
    Reports P m0 a0 j0 (s.reloadRecord x n).mem (s.reloadRecord x n).atc (s.reloadRecord x n).jrw := by
  generalize hu : s.reloadRecord x n = t
  unfold State.reloadRecord at hu
  try dsimp only at hu
  (repeat' split at hu) <;> (subst hu; simp (maxDischargeDepth := 20) [*])

@[simp] theorem State.judgeReload_reports (s : State) (h10 : P .journal)
    (h : Reports P m0 a0 j0 s.mem s.atc s.jrw) :
    Reports P m0 a0 j0 s.judgeReload.mem s.judgeReload.atc s.judgeReload.jrw := by
  generalize hu : s.judgeReload = t
  unfold State.judgeReload at hu
  try dsimp only at hu
  (repeat' split at hu) <;> (subst hu; simp (maxDischargeDepth := 20) [*])

@[simp] theorem State.reservoirSample_reports (s : State) (h0 : P .device) (h9 : P .air) (h10 : P .journal)
    (h : Reports P m0 a0 j0 s.mem s.atc s.jrw) :
    Reports P m0 a0 j0 s.reservoirSample.mem s.reservoirSample.atc s.reservoirSample.jrw := by
  generalize hu : s.reservoirSample = t
  unfold State.reservoirSample at hu
  try dsimp only at hu
  (repeat' split at hu) <;> (subst hu; simp (maxDischargeDepth := 20) [*])

@[simp] theorem State.closeEpisode_reports (s : State) (c : Channel) (r : EndReason) (h10 : P .journal)
    (h : Reports P m0 a0 j0 s.mem s.atc s.jrw) :
    Reports P m0 a0 j0 (s.closeEpisode c r).mem (s.closeEpisode c r).atc (s.closeEpisode c r).jrw := by
  generalize hu : s.closeEpisode c r = t
  unfold State.closeEpisode at hu
  try dsimp only at hu
  subst hu
  simp (maxDischargeDepth := 20) [*]

@[simp] theorem State.slipOff_reports (s : State) (c : Channel) (r : EndReason) (h10 : P .journal)
    (h : Reports P m0 a0 j0 s.mem s.atc s.jrw) :
    Reports P m0 a0 j0 (s.slipOff c r).mem (s.slipOff c r).atc (s.slipOff c r).jrw := by
  generalize hu : s.slipOff c r = t
  unfold State.slipOff at hu
  try dsimp only at hu
  (repeat' split at hu) <;> (subst hu; simp (maxDischargeDepth := 20) [*])

theorem foldSlipOff_reports (h10 : P .journal) : ∀ (l : List Channel) (s : State), Reports P m0 a0 j0 s.mem s.atc s.jrw →
    Reports P m0 a0 j0 (l.foldl (fun u c => u.slipOff c .backup) s).mem (l.foldl (fun u c => u.slipOff c .backup) s).atc (l.foldl (fun u c => u.slipOff c .backup) s).jrw := by
  intro l
  induction l with
  | nil => intro s h; exact h
  | cons c xs ih =>
    intro s h
    exact ih _ (by simp (maxDischargeDepth := 20) [*])

@[simp] theorem State.backupEntry_reports (s : State) (l : List Channel) (h5 : P .slip) (h10 : P .journal)
    (h : Reports P m0 a0 j0 s.mem s.atc s.jrw) :
    Reports P m0 a0 j0 (s.backupEntry l).mem (s.backupEntry l).atc (s.backupEntry l).jrw := by
  have h2 := foldSlipOff_reports (by assumption) l s h
  generalize hu : s.backupEntry l = t
  unfold State.backupEntry at hu
  dsimp only at hu
  split at hu <;> (subst hu; simp_all (maxDischargeDepth := 20))

@[simp] theorem State.enterBackup_reports (s : State) (l : List Channel) (h5 : P .slip) (h10 : P .journal)
    (h : Reports P m0 a0 j0 s.mem s.atc s.jrw) :
    Reports P m0 a0 j0 (s.enterBackup l).mem (s.enterBackup l).atc (s.enterBackup l).jrw := by
  have h2 := foldBackup_frame l s
  unfold State.enterBackup
  exact State.backupEntry_reports _ l (by assumption) (by assumption) (by simp_all)

@[simp] theorem State.faultEffects_reports (s : State) (c : Channel) (k : Cause) (m : Mode) (h10 : P .journal)
    (h : Reports P m0 a0 j0 s.mem s.atc s.jrw) :
    Reports P m0 a0 j0 (s.faultEffects c k m).mem (s.faultEffects c k m).atc (s.faultEffects c k m).jrw := by
  generalize hu : s.faultEffects c k m = t
  unfold State.faultEffects at hu
  try dsimp only at hu
  (repeat' split at hu) <;> (subst hu; simp (maxDischargeDepth := 20) [*])

@[simp] theorem State.addCause_reports (s : State) (c : Channel) (k : Cause) (h5 : P .slip) (h6 : P .modulator)
    (h10 : P .journal)
    (h : Reports P m0 a0 j0 s.mem s.atc s.jrw) :
    Reports P m0 a0 j0 (s.addCause c k).mem (s.addCause c k).atc (s.addCause c k).jrw := by
  generalize hu : s.addCause c k = t
  unfold State.addCause at hu
  try dsimp only at hu
  (repeat' split at hu) <;> (subst hu; simp (maxDischargeDepth := 20) [*])

@[simp] theorem State.addSourceNone_reports (s : State) (h5 : P .slip) (h6 : P .modulator) (h10 : P .journal)
    (h : Reports P m0 a0 j0 s.mem s.atc s.jrw) :
    Reports P m0 a0 j0 s.addSourceNone.mem s.addSourceNone.atc s.addSourceNone.jrw := by
  generalize hu : s.addSourceNone = t
  unfold State.addSourceNone at hu
  try dsimp only at hu
  subst hu
  simp (maxDischargeDepth := 20) [*]

@[simp] theorem State.regulateChannel_reports (s : State) (c : Channel) (p : Int) (h5 : P .slip) (h6 : P .modulator)
    (h10 : P .journal)
    (h : Reports P m0 a0 j0 s.mem s.atc s.jrw) :
    Reports P m0 a0 j0 (s.regulateChannel c p).mem (s.regulateChannel c p).atc (s.regulateChannel c p).jrw := by
  generalize hu : s.regulateChannel c p = t
  unfold State.regulateChannel at hu
  try dsimp only at hu
  (repeat' split at hu) <;> (subst hu; simp (maxDischargeDepth := 20) [*])

@[simp] theorem State.driveChannel_reports (s : State) (p : Int) (c : Channel) (h5 : P .slip) (h6 : P .modulator)
    (h10 : P .journal)
    (h : Reports P m0 a0 j0 s.mem s.atc s.jrw) :
    Reports P m0 a0 j0 (s.driveChannel p c).mem (s.driveChannel p c).atc (s.driveChannel p c).jrw := by
  generalize hu : s.driveChannel p c = t
  unfold State.driveChannel at hu
  try dsimp only at hu
  (repeat' split at hu) <;> (subst hu; simp (maxDischargeDepth := 20) [*])

@[simp] theorem State.clearChannel_reports (s : State) (c : Channel) (h10 : P .journal)
    (h : Reports P m0 a0 j0 s.mem s.atc s.jrw) :
    Reports P m0 a0 j0 (s.clearChannel c).mem (s.clearChannel c).atc (s.clearChannel c).jrw := by
  generalize hu : s.clearChannel c = t
  unfold State.clearChannel at hu
  try dsimp only at hu
  subst hu
  simp (maxDischargeDepth := 20) [*]

@[simp] theorem State.clearUnit_reports (s : State) (u : DriveUnit) (h10 : P .journal)
    (h : Reports P m0 a0 j0 s.mem s.atc s.jrw) :
    Reports P m0 a0 j0 (s.clearUnit u).mem (s.clearUnit u).atc (s.clearUnit u).jrw := by
  unfold State.clearUnit
  cases u <;> split <;> simp (maxDischargeDepth := 20) [DriveUnit.channels, *]

@[simp] theorem State.clearFaults_reports (s : State) (h0 : P .device) (h10 : P .journal)
    (h : Reports P m0 a0 j0 s.mem s.atc s.jrw) :
    Reports P m0 a0 j0 s.clearFaults.mem s.clearFaults.atc s.clearFaults.jrw := by
  generalize hu : s.clearFaults = t
  unfold State.clearFaults at hu
  try dsimp only at hu
  (repeat' split at hu) <;> (subst hu; simp (maxDischargeDepth := 20) [*])

@[simp] theorem State.adoptValve_reports (s : State) (h0 : P .device) (h10 : P .journal)
    (h : Reports P m0 a0 j0 s.mem s.atc s.jrw) :
    Reports P m0 a0 j0 s.adoptValve.mem s.adoptValve.atc s.adoptValve.jrw := by
  generalize hu : s.adoptValve = t
  unfold State.adoptValve at hu
  try dsimp only at hu
  (repeat' split at hu) <;> (subst hu; simp (maxDischargeDepth := 20) [*])

@[simp] theorem State.valvePeriod_reports (s : State) (h0 : P .device) (h5 : P .slip) (h6 : P .modulator)
    (h10 : P .journal)
    (h : Reports P m0 a0 j0 s.mem s.atc s.jrw) :
    Reports P m0 a0 j0 s.valvePeriod.mem s.valvePeriod.atc s.valvePeriod.jrw := by
  simp (maxDischargeDepth := 30) [State.valvePeriod, Channel.all, *]

@[simp] theorem State.valvePeriodExpired_reports (s : State) (h0 : P .device) (h5 : P .slip) (h6 : P .modulator)
    (h10 : P .journal)
    (h : Reports P m0 a0 j0 s.mem s.atc s.jrw) :
    Reports P m0 a0 j0 s.valvePeriodExpired.mem s.valvePeriodExpired.atc s.valvePeriodExpired.jrw := by
  generalize hu : s.valvePeriodExpired = t
  unfold State.valvePeriodExpired at hu
  try dsimp only at hu
  (repeat' split at hu) <;> (subst hu; simp (maxDischargeDepth := 20) [*])

@[simp] theorem State.dumpEntry_reports (s : State) {a : Atc} {j : Jrw} (c : Channel) (h6 : P .modulator)
    (h : Reports P m0 a0 j0 s.mem a j) :
    Reports P m0 a0 j0 (s.dumpEntry c).mem a j := by
  generalize hu : s.dumpEntry c = t
  unfold State.dumpEntry at hu
  try dsimp only at hu
  (repeat' split at hu) <;> (subst hu; simp (maxDischargeDepth := 20) [*])

@[simp] theorem State.driverReported_reports (s : State) (c : Channel) (v : Valve) (i : Indication) (h5 : P .slip)
    (h6 : P .modulator) (h10 : P .journal)
    (h : Reports P m0 a0 j0 s.mem s.atc s.jrw) :
    Reports P m0 a0 j0 (s.driverReported c v i).mem (s.driverReported c v i).atc (s.driverReported c v i).jrw := by
  generalize hu : s.driverReported c v i = t
  unfold State.driverReported at hu
  try dsimp only at hu
  (repeat' split at hu) <;> (subst hu; simp (maxDischargeDepth := 20) [*])

@[simp] theorem State.addStandingIndication_reports (s : State) (c : Channel) (v : Valve) (h5 : P .slip)
    (h6 : P .modulator) (h10 : P .journal)
    (h : Reports P m0 a0 j0 s.mem s.atc s.jrw) :
    Reports P m0 a0 j0 (s.addStandingIndication c v).mem (s.addStandingIndication c v).atc (s.addStandingIndication c v).jrw := by
  generalize hu : s.addStandingIndication c v = t
  unfold State.addStandingIndication at hu
  try dsimp only at hu
  (repeat' split at hu) <;> (subst hu; simp (maxDischargeDepth := 20) [*])

@[simp] theorem State.addStandingIndications_reports (s : State) (h5 : P .slip) (h6 : P .modulator) (h10 : P .journal)
    (h : Reports P m0 a0 j0 s.mem s.atc s.jrw) :
    Reports P m0 a0 j0 s.addStandingIndications.mem s.addStandingIndications.atc s.addStandingIndications.jrw := by
  simp (maxDischargeDepth := 30) [State.addStandingIndications, Channel.all, *]

@[simp] theorem State.endMove_reports (s : State) (d : MoveDirection) (o : MoveOutcome) (h10 : P .journal)
    (h : Reports P m0 a0 j0 s.mem s.atc s.jrw) :
    Reports P m0 a0 j0 (s.endMove d o).mem (s.endMove d o).atc (s.endMove d o).jrw := by
  generalize hu : s.endMove d o = t
  unfold State.endMove at hu
  try dsimp only at hu
  subst hu
  simp (maxDischargeDepth := 20) [*]

@[simp] theorem State.enterLowering_reports (s : State) (cause : MoveCause) (h10 : P .journal)
    (h : Reports P m0 a0 j0 s.mem s.atc s.jrw) :
    Reports P m0 a0 j0 (s.enterLowering cause).mem (s.enterLowering cause).atc (s.enterLowering cause).jrw := by
  generalize hu : s.enterLowering cause = t
  unfold State.enterLowering at hu
  try dsimp only at hu
  (repeat' split at hu) <;> (subst hu; simp (maxDischargeDepth := 20) [*])

@[simp] theorem State.decideLowered_reports (s : State) (h9 : P .air) (h10 : P .journal)
    (h : Reports P m0 a0 j0 s.mem s.atc s.jrw) :
    Reports P m0 a0 j0 s.decideLowered.mem s.decideLowered.atc s.decideLowered.jrw := by
  generalize hu : s.decideLowered = t
  unfold State.decideLowered at hu
  try dsimp only at hu
  (repeat' split at hu) <;> (subst hu; simp (maxDischargeDepth := 20) [*])

@[simp] theorem State.decideRaising_reports (s : State) (h10 : P .journal)
    (h : Reports P m0 a0 j0 s.mem s.atc s.jrw) :
    Reports P m0 a0 j0 s.decideRaising.mem s.decideRaising.atc s.decideRaising.jrw := by
  generalize hu : s.decideRaising = t
  unfold State.decideRaising at hu
  try dsimp only at hu
  (repeat' split at hu) <;> (subst hu; simp (maxDischargeDepth := 20) [*])

@[simp] theorem State.decideRaised_reports (s : State) (h10 : P .journal)
    (h : Reports P m0 a0 j0 s.mem s.atc s.jrw) :
    Reports P m0 a0 j0 s.decideRaised.mem s.decideRaised.atc s.decideRaised.jrw := by
  generalize hu : s.decideRaised = t
  unfold State.decideRaised at hu
  try dsimp only at hu
  (repeat' split at hu) <;> (subst hu; simp (maxDischargeDepth := 20) [*])

@[simp] theorem State.decideLowering_reports (s : State) (h10 : P .journal)
    (h : Reports P m0 a0 j0 s.mem s.atc s.jrw) :
    Reports P m0 a0 j0 s.decideLowering.mem s.decideLowering.atc s.decideLowering.jrw := by
  generalize hu : s.decideLowering = t
  unfold State.decideLowering at hu
  try dsimp only at hu
  (repeat' split at hu) <;> (subst hu; simp (maxDischargeDepth := 20) [*])

@[simp] theorem State.liftDecision_reports (s : State) (h9 : P .air) (h10 : P .journal)
    (h : Reports P m0 a0 j0 s.mem s.atc s.jrw) :
    Reports P m0 a0 j0 s.liftDecision.mem s.liftDecision.atc s.liftDecision.jrw := by
  generalize hu : s.liftDecision = t
  unfold State.liftDecision at hu
  try dsimp only at hu
  (repeat' split at hu) <;> (subst hu; simp (maxDischargeDepth := 20) [*])

@[simp] theorem State.liftPeriod_reports (s : State) (h3 : P .lift) (h9 : P .air) (h10 : P .journal)
    (h : Reports P m0 a0 j0 s.mem s.atc s.jrw) :
    Reports P m0 a0 j0 s.liftPeriod.mem s.liftPeriod.atc s.liftPeriod.jrw := by
  generalize hu : s.liftPeriod = t
  unfold State.liftPeriod at hu
  try dsimp only at hu
  subst hu
  simp (maxDischargeDepth := 20) [*]

@[simp] theorem State.rolloverLowering_reports (s : State) (h3 : P .lift) (h10 : P .journal)
    (h : Reports P m0 a0 j0 s.mem s.atc s.jrw) :
    Reports P m0 a0 j0 s.rolloverLowering.mem s.rolloverLowering.atc s.rolloverLowering.jrw := by
  generalize hu : s.rolloverLowering = t
  unfold State.rolloverLowering at hu
  try dsimp only at hu
  (repeat' split at hu) <;> (subst hu; simp (maxDischargeDepth := 20) [*])

@[simp] theorem State.moveTimedOut_reports (s : State) (h3 : P .lift) (h10 : P .journal)
    (h : Reports P m0 a0 j0 s.mem s.atc s.jrw) :
    Reports P m0 a0 j0 s.moveTimedOut.mem s.moveTimedOut.atc s.moveTimedOut.jrw := by
  generalize hu : s.moveTimedOut = t
  unfold State.moveTimedOut at hu
  try dsimp only at hu
  subst hu
  simp (maxDischargeDepth := 20) [*]

@[simp] theorem State.moveTimerExpired_reports (s : State) (h3 : P .lift) (h10 : P .journal)
    (h : Reports P m0 a0 j0 s.mem s.atc s.jrw) :
    Reports P m0 a0 j0 s.moveTimerExpired.mem s.moveTimerExpired.atc s.moveTimerExpired.jrw := by
  generalize hu : s.moveTimerExpired = t
  unfold State.moveTimerExpired at hu
  try dsimp only at hu
  (repeat' split at hu) <;> (subst hu; simp (maxDischargeDepth := 20) [*])

@[simp] theorem State.reportFreshness_reports (s : State) (b : Bool) (h10 : P .journal)
    (h : Reports P m0 a0 j0 s.mem s.atc s.jrw) :
    Reports P m0 a0 j0 (s.reportFreshness b).mem (s.reportFreshness b).atc (s.reportFreshness b).jrw := by
  generalize hu : s.reportFreshness b = t
  unfold State.reportFreshness at hu
  try dsimp only at hu
  (repeat' split at hu) <;> (subst hu; simp (maxDischargeDepth := 20) [*])

@[simp] theorem State.sourceChanged_reports (s : State) (o : Source) (h5 : P .slip) (h6 : P .modulator)
    (h10 : P .journal)
    (h : Reports P m0 a0 j0 s.mem s.atc s.jrw) :
    Reports P m0 a0 j0 (s.sourceChanged o).mem (s.sourceChanged o).atc (s.sourceChanged o).jrw := by
  generalize hu : s.sourceChanged o = t
  unfold State.sourceChanged at hu
  try dsimp only at hu
  (repeat' split at hu) <;> (subst hu; simp (maxDischargeDepth := 20) [*])

@[simp] theorem State.selectSource_reports (s : State) (h5 : P .slip) (h6 : P .modulator) (h10 : P .journal)
    (h : Reports P m0 a0 j0 s.mem s.atc s.jrw) :
    Reports P m0 a0 j0 s.selectSource.mem s.selectSource.atc s.selectSource.jrw := by
  generalize hu : s.selectSource = t
  unfold State.selectSource at hu
  try dsimp only at hu
  subst hu
  simp (maxDischargeDepth := 20) [*]

@[simp] theorem State.declareMismatch_reports (s : State) (h10 : P .journal)
    (h : Reports P m0 a0 j0 s.mem s.atc s.jrw) :
    Reports P m0 a0 j0 s.declareMismatch.mem s.declareMismatch.atc s.declareMismatch.jrw := by
  generalize hu : s.declareMismatch = t
  unfold State.declareMismatch at hu
  try dsimp only at hu
  subst hu
  simp (maxDischargeDepth := 20) [*]

@[simp] theorem State.endMismatch_reports (s : State) (h10 : P .journal)
    (h : Reports P m0 a0 j0 s.mem s.atc s.jrw) :
    Reports P m0 a0 j0 s.endMismatch.mem s.endMismatch.atc s.endMismatch.jrw := by
  generalize hu : s.endMismatch = t
  unfold State.endMismatch at hu
  try dsimp only at hu
  (repeat' split at hu) <;> (subst hu; simp (maxDischargeDepth := 20) [*])

@[simp] theorem State.judgeMismatch_reports (s : State) (h10 : P .journal)
    (h : Reports P m0 a0 j0 s.mem s.atc s.jrw) :
    Reports P m0 a0 j0 s.judgeMismatch.mem s.judgeMismatch.atc s.judgeMismatch.jrw := by
  generalize hu : s.judgeMismatch = t
  unfold State.judgeMismatch at hu
  try dsimp only at hu
  (repeat' split at hu) <;> (subst hu; simp (maxDischargeDepth := 20) [*])

@[simp] theorem State.enterActive_reports (s : State) (h0 : P .device) (h10 : P .journal)
    (h : Reports P m0 a0 j0 s.mem s.atc s.jrw) :
    Reports P m0 a0 j0 s.enterActive.mem s.enterActive.atc s.enterActive.jrw := by
  generalize hu : s.enterActive = t
  unfold State.enterActive at hu
  try dsimp only at hu
  (repeat' split at hu) <;> (subst hu; simp (maxDischargeDepth := 20) [*])

@[simp] theorem State.adoptVehicle_reports (s : State) (h0 : P .device) (h10 : P .journal)
    (h : Reports P m0 a0 j0 s.mem s.atc s.jrw) :
    Reports P m0 a0 j0 s.adoptVehicle.mem s.adoptVehicle.atc s.adoptVehicle.jrw := by
  generalize hu : s.adoptVehicle = t
  unfold State.adoptVehicle at hu
  try dsimp only at hu
  (repeat' split at hu) <;> (subst hu; simp (maxDischargeDepth := 20) [*])

@[simp] theorem State.adoptLoad_reports (s : State) (h0 : P .device) (h10 : P .journal)
    (h : Reports P m0 a0 j0 s.mem s.atc s.jrw) :
    Reports P m0 a0 j0 s.adoptLoad.mem s.adoptLoad.atc s.adoptLoad.jrw := by
  generalize hu : s.adoptLoad = t
  unfold State.adoptLoad at hu
  try dsimp only at hu
  (repeat' split at hu) <;> (subst hu; simp (maxDischargeDepth := 20) [*])

@[simp] theorem State.adoptLduGroups_reports (s : State) (h0 : P .device) (h10 : P .journal)
    (h : Reports P m0 a0 j0 s.mem s.atc s.jrw) :
    Reports P m0 a0 j0 s.adoptLduGroups.mem s.adoptLduGroups.atc s.adoptLduGroups.jrw := by
  generalize hu : s.adoptLduGroups = t
  unfold State.adoptLduGroups at hu
  try dsimp only at hu
  (repeat' split at hu) <;> (subst hu; simp (maxDischargeDepth := 20) [*])

@[simp] theorem State.lduDemandSteps_reports (s : State) (h5 : P .slip) (h6 : P .modulator) (h10 : P .journal)
    (h : Reports P m0 a0 j0 s.mem s.atc s.jrw) :
    Reports P m0 a0 j0 s.lduDemandSteps.mem s.lduDemandSteps.atc s.lduDemandSteps.jrw := by
  generalize hu : s.lduDemandSteps = t
  unfold State.lduDemandSteps at hu
  try dsimp only at hu
  subst hu
  simp (maxDischargeDepth := 20) [*]

@[simp] theorem State.lduPeriod_reports (s : State) (h0 : P .device) (h2 : P .demand) (h3 : P .lift) (h5 : P .slip)
    (h6 : P .modulator) (h9 : P .air) (h10 : P .journal)
    (h : Reports P m0 a0 j0 s.mem s.atc s.jrw) :
    Reports P m0 a0 j0 s.lduPeriod.mem s.lduPeriod.atc s.lduPeriod.jrw := by
  generalize hu : s.lduPeriod = t
  unfold State.lduPeriod at hu
  try dsimp only at hu
  subst hu
  simp (maxDischargeDepth := 20) [*]

@[simp] theorem State.lduPeriodExpired_reports (s : State) (h0 : P .device) (h2 : P .demand) (h3 : P .lift)
    (h5 : P .slip) (h6 : P .modulator) (h9 : P .air) (h10 : P .journal)
    (h : Reports P m0 a0 j0 s.mem s.atc s.jrw) :
    Reports P m0 a0 j0 s.lduPeriodExpired.mem s.lduPeriodExpired.atc s.lduPeriodExpired.jrw := by
  generalize hu : s.lduPeriodExpired = t
  unfold State.lduPeriodExpired at hu
  try dsimp only at hu
  (repeat' split at hu) <;> (subst hu; simp (maxDischargeDepth := 20) [*])

@[simp] theorem State.declareOpen_reports (s : State) (w : Wheel) (h10 : P .journal)
    (h : Reports P m0 a0 j0 s.mem s.atc s.jrw) :
    Reports P m0 a0 j0 (s.declareOpen w).mem (s.declareOpen w).atc (s.declareOpen w).jrw := by
  generalize hu : s.declareOpen w = t
  unfold State.declareOpen at hu
  try dsimp only at hu
  subst hu
  simp (maxDischargeDepth := 20) [*]

@[simp] theorem State.declareZeroSpeed_reports (s : State) (w : Wheel) (h10 : P .journal)
    (h : Reports P m0 a0 j0 s.mem s.atc s.jrw) :
    Reports P m0 a0 j0 (s.declareZeroSpeed w).mem (s.declareZeroSpeed w).atc (s.declareZeroSpeed w).jrw := by
  generalize hu : s.declareZeroSpeed w = t
  unfold State.declareZeroSpeed at hu
  try dsimp only at hu
  subst hu
  simp (maxDischargeDepth := 20) [*]

@[simp] theorem State.judgeZeroSpeed_reports (s : State) (w : Wheel) (h10 : P .journal)
    (h : Reports P m0 a0 j0 s.mem s.atc s.jrw) :
    Reports P m0 a0 j0 (s.judgeZeroSpeed w).mem (s.judgeZeroSpeed w).atc (s.judgeZeroSpeed w).jrw := by
  generalize hu : s.judgeZeroSpeed w = t
  unfold State.judgeZeroSpeed at hu
  try dsimp only at hu
  (repeat' split at hu) <;> (subst hu; simp (maxDischargeDepth := 20) [*])

@[simp] theorem State.clearWheelFault_reports (s : State) (w : Wheel) (v : Int) (h10 : P .journal)
    (h : Reports P m0 a0 j0 s.mem s.atc s.jrw) :
    Reports P m0 a0 j0 (s.clearWheelFault w v).mem (s.clearWheelFault w v).atc (s.clearWheelFault w v).jrw := by
  generalize hu : s.clearWheelFault w v = t
  unfold State.clearWheelFault at hu
  try dsimp only at hu
  subst hu
  simp (maxDischargeDepth := 20) [*]

@[simp] theorem State.judgeRecovery_reports (s : State) (w : Wheel) (n : Nat) (v : Int) (h10 : P .journal)
    (h : Reports P m0 a0 j0 s.mem s.atc s.jrw) :
    Reports P m0 a0 j0 (s.judgeRecovery w n v).mem (s.judgeRecovery w n v).atc (s.judgeRecovery w n v).jrw := by
  generalize hu : s.judgeRecovery w n v = t
  unfold State.judgeRecovery at hu
  try dsimp only at hu
  (repeat' split at hu) <;> (subst hu; simp (maxDischargeDepth := 20) [*])

@[simp] theorem State.judgeCircuit_reports (s : State) (x : PerWheel Circuit) (w : Wheel) (h10 : P .journal)
    (h : Reports P m0 a0 j0 s.mem s.atc s.jrw) :
    Reports P m0 a0 j0 (State.judgeCircuit x s w).mem (State.judgeCircuit x s w).atc (State.judgeCircuit x s w).jrw := by
  generalize hu : State.judgeCircuit x s w = t
  unfold State.judgeCircuit at hu
  try dsimp only at hu
  (repeat' split at hu) <;> (subst hu; simp (maxDischargeDepth := 20) [*])

@[simp] theorem State.judgeSensor_reports (s : State) (b : State) (w : Wheel) (h10 : P .journal)
    (h : Reports P m0 a0 j0 s.mem s.atc s.jrw) :
    Reports P m0 a0 j0 (State.judgeSensor b s w).mem (State.judgeSensor b s w).atc (State.judgeSensor b s w).jrw := by
  generalize hu : State.judgeSensor b s w = t
  unfold State.judgeSensor at hu
  try dsimp only at hu
  (repeat' split at hu) <;> (subst hu; simp (maxDischargeDepth := 20) [*])

@[simp] theorem State.takeDump_reports (s : State) {a : Atc} {j : Jrw} (c : Channel) (h6 : P .modulator)
    (h : Reports P m0 a0 j0 s.mem a j) :
    Reports P m0 a0 j0 (s.takeDump c).mem a j := by
  generalize hu : s.takeDump c = t
  unfold State.takeDump at hu
  try dsimp only at hu
  subst hu
  simp (maxDischargeDepth := 20) [*]

@[simp] theorem State.judgePass_reports (s : State) {a : Atc} {j : Jrw} (c : Channel) (h6 : P .modulator)
    (h : Reports P m0 a0 j0 s.mem a j) :
    Reports P m0 a0 j0 (s.judgePass c).mem a j := by
  generalize hu : s.judgePass c = t
  unfold State.judgePass at hu
  try dsimp only at hu
  (repeat' split at hu) <;> (subst hu; simp (maxDischargeDepth := 20) [*])

@[simp] theorem State.judgeHold_reports (s : State) {a : Atc} {j : Jrw} (c : Channel) (h6 : P .modulator)
    (h : Reports P m0 a0 j0 s.mem a j) :
    Reports P m0 a0 j0 (s.judgeHold c).mem a j := by
  generalize hu : s.judgeHold c = t
  unfold State.judgeHold at hu
  try dsimp only at hu
  (repeat' split at hu) <;> (subst hu; simp (maxDischargeDepth := 20) [*])

@[simp] theorem State.judgeRebuild_reports (s : State) {a : Atc} {j : Jrw} (c : Channel) (h6 : P .modulator)
    (h : Reports P m0 a0 j0 s.mem a j) :
    Reports P m0 a0 j0 (s.judgeRebuild c).mem a j := by
  generalize hu : s.judgeRebuild c = t
  unfold State.judgeRebuild at hu
  try dsimp only at hu
  (repeat' split at hu) <;> (subst hu; simp (maxDischargeDepth := 20) [*])

@[simp] theorem State.endEpisode_reports (s : State) (c : Channel) (r : EndReason) (h10 : P .journal)
    (h : Reports P m0 a0 j0 s.mem s.atc s.jrw) :
    Reports P m0 a0 j0 (s.endEpisode c r).mem (s.endEpisode c r).atc (s.endEpisode c r).jrw := by
  generalize hu : s.endEpisode c r = t
  unfold State.endEpisode at hu
  try dsimp only at hu
  subst hu
  simp (maxDischargeDepth := 20) [*]

@[simp] theorem State.judgeState_reports (s : State) (c : Channel) (h6 : P .modulator) (h10 : P .journal)
    (h : Reports P m0 a0 j0 s.mem s.atc s.jrw) :
    Reports P m0 a0 j0 (s.judgeState c).mem (s.judgeState c).atc (s.judgeState c).jrw := by
  generalize hu : s.judgeState c = t
  unfold State.judgeState at hu
  try dsimp only at hu
  (repeat' split at hu) <;> (subst hu; simp (maxDischargeDepth := 20) [*])

@[simp] theorem State.judgeChannel_reports (s : State) (c : Channel) (h6 : P .modulator) (h10 : P .journal)
    (h : Reports P m0 a0 j0 s.mem s.atc s.jrw) :
    Reports P m0 a0 j0 (s.judgeChannel c).mem (s.judgeChannel c).atc (s.judgeChannel c).jrw := by
  generalize hu : s.judgeChannel c = t
  unfold State.judgeChannel at hu
  try dsimp only at hu
  (repeat' split at hu) <;> (subst hu; simp (maxDischargeDepth := 20) [*])

@[simp] theorem State.adoptSlip_reports (s : State) (h0 : P .device) (h10 : P .journal)
    (h : Reports P m0 a0 j0 s.mem s.atc s.jrw) :
    Reports P m0 a0 j0 s.adoptSlip.mem s.adoptSlip.atc s.adoptSlip.jrw := by
  generalize hu : s.adoptSlip = t
  unfold State.adoptSlip at hu
  try dsimp only at hu
  (repeat' split at hu) <;> (subst hu; simp (maxDischargeDepth := 20) [*])

@[simp] theorem State.windowCompletion_reports (s : State) (h0 : P .device) (h5 : P .slip) (h6 : P .modulator)
    (h10 : P .journal)
    (h : Reports P m0 a0 j0 s.mem s.atc s.jrw) :
    Reports P m0 a0 j0 s.windowCompletion.mem s.windowCompletion.atc s.windowCompletion.jrw := by
  simp (maxDischargeDepth := 30) [State.windowCompletion, Channel.all, *]

@[simp] theorem State.windowSteps_reports (s : State) (x : PerWheel Circuit) (h10 : P .journal)
    (h : Reports P m0 a0 j0 s.mem s.atc s.jrw) :
    Reports P m0 a0 j0 (s.windowSteps x).mem (s.windowSteps x).atc (s.windowSteps x).jrw := by
  simp (maxDischargeDepth := 30) [State.windowSteps, State.eachWheel, Wheel.all, *]

@[simp] theorem State.windowExpired_reports (s : State) (x : PerWheel Circuit) (h0 : P .device) (h4 : P .wheels)
    (h5 : P .slip) (h6 : P .modulator) (h10 : P .journal)
    (h : Reports P m0 a0 j0 s.mem s.atc s.jrw) :
    Reports P m0 a0 j0 (s.windowExpired x).mem (s.windowExpired x).atc (s.windowExpired x).jrw := by
  generalize hu : s.windowExpired x = t
  unfold State.windowExpired at hu
  try dsimp only at hu
  (repeat' split at hu) <;> (subst hu; simp (maxDischargeDepth := 20) [*])

@[simp] theorem State.enterRebuild_reports (s : State) {a : Atc} {j : Jrw} (c : Channel) (h5 : P .slip)
    (h : Reports P m0 a0 j0 s.mem a j) :
    Reports P m0 a0 j0 (s.enterRebuild c).mem a j := by
  generalize hu : s.enterRebuild c = t
  unfold State.enterRebuild at hu
  try dsimp only at hu
  subst hu
  simp (maxDischargeDepth := 20) [*]

@[simp] theorem State.holdTimerExpired_reports (s : State) {a : Atc} {j : Jrw} (c : Channel) (h5 : P .slip)
    (h : Reports P m0 a0 j0 s.mem a j) :
    Reports P m0 a0 j0 (s.holdTimerExpired c).mem a j := by
  generalize hu : s.holdTimerExpired c = t
  unfold State.holdTimerExpired at hu
  try dsimp only at hu
  (repeat' split at hu) <;> (subst hu; simp (maxDischargeDepth := 20) [*])

@[simp] theorem State.stepTimerExpired_reports (s : State) (c : Channel) (h5 : P .slip) (h10 : P .journal)
    (h : Reports P m0 a0 j0 s.mem s.atc s.jrw) :
    Reports P m0 a0 j0 (s.stepTimerExpired c).mem (s.stepTimerExpired c).atc (s.stepTimerExpired c).jrw := by
  generalize hu : s.stepTimerExpired c = t
  unfold State.stepTimerExpired at hu
  try dsimp only at hu
  (repeat' split at hu) <;> (subst hu; simp (maxDischargeDepth := 20) [*])

@[simp] theorem State.adoptRoll_reports (s : State) (h0 : P .device) (h10 : P .journal)
    (h : Reports P m0 a0 j0 s.mem s.atc s.jrw) :
    Reports P m0 a0 j0 s.adoptRoll.mem s.adoptRoll.atc s.adoptRoll.jrw := by
  generalize hu : s.adoptRoll = t
  unfold State.adoptRoll at hu
  try dsimp only at hu
  (repeat' split at hu) <;> (subst hu; simp (maxDischargeDepth := 20) [*])

@[simp] theorem State.changeStage_reports (s : State) (g : Stage) (k : StageCause) (h10 : P .journal)
    (h : Reports P m0 a0 j0 s.mem s.atc s.jrw) :
    Reports P m0 a0 j0 (s.changeStage g k).mem (s.changeStage g k).atc (s.changeStage g k).jrw := by
  generalize hu : s.changeStage g k = t
  unfold State.changeStage at hu
  try dsimp only at hu
  subst hu
  simp (maxDischargeDepth := 20) [*]

@[simp] theorem State.enterBrake_reports (s : State) (k : StageCause) (h3 : P .lift) (h10 : P .journal)
    (h : Reports P m0 a0 j0 s.mem s.atc s.jrw) :
    Reports P m0 a0 j0 (s.enterBrake k).mem (s.enterBrake k).atc (s.enterBrake k).jrw := by
  generalize hu : s.enterBrake k = t
  unfold State.enterBrake at hu
  try dsimp only at hu
  subst hu
  simp (maxDischargeDepth := 20) [*]

@[simp] theorem State.judgeQuiet_reports (s : State) (h3 : P .lift) (h10 : P .journal)
    (h : Reports P m0 a0 j0 s.mem s.atc s.jrw) :
    Reports P m0 a0 j0 s.judgeQuiet.mem s.judgeQuiet.atc s.judgeQuiet.jrw := by
  generalize hu : s.judgeQuiet = t
  unfold State.judgeQuiet at hu
  try dsimp only at hu
  (repeat' split at hu) <;> (subst hu; simp (maxDischargeDepth := 20) [*])

@[simp] theorem State.startTest_reports (s : State) (h10 : P .journal)
    (h : Reports P m0 a0 j0 s.mem s.atc s.jrw) :
    Reports P m0 a0 j0 s.startTest.mem s.startTest.atc s.startTest.jrw := by
  generalize hu : s.startTest = t
  unfold State.startTest at hu
  try dsimp only at hu
  subst hu
  simp (maxDischargeDepth := 20) [*]

@[simp] theorem State.judgeTestStart_reports (s : State) (h9 : P .air) (h10 : P .journal)
    (h : Reports P m0 a0 j0 s.mem s.atc s.jrw) :
    Reports P m0 a0 j0 s.judgeTestStart.mem s.judgeTestStart.atc s.judgeTestStart.jrw := by
  generalize hu : s.judgeTestStart = t
  unfold State.judgeTestStart at hu
  try dsimp only at hu
  (repeat' split at hu) <;> (subst hu; simp (maxDischargeDepth := 20) [*])

@[simp] theorem State.judgeWatch_reports (s : State) (h3 : P .lift) (h9 : P .air) (h10 : P .journal)
    (h : Reports P m0 a0 j0 s.mem s.atc s.jrw) :
    Reports P m0 a0 j0 s.judgeWatch.mem s.judgeWatch.atc s.judgeWatch.jrw := by
  generalize hu : s.judgeWatch = t
  unfold State.judgeWatch at hu
  try dsimp only at hu
  (repeat' split at hu) <;> (subst hu; simp (maxDischargeDepth := 20) [*])

@[simp] theorem State.endTest_reports (s : State) (r : TestResult) (k : TestEnd) (h10 : P .journal)
    (h : Reports P m0 a0 j0 s.mem s.atc s.jrw) :
    Reports P m0 a0 j0 (s.endTest r k).mem (s.endTest r k).atc (s.endTest r k).jrw := by
  generalize hu : s.endTest r k = t
  unfold State.endTest at hu
  try dsimp only at hu
  subst hu
  simp (maxDischargeDepth := 20) [*]

@[simp] theorem State.testToWatch_reports (s : State) (r : TestResult) (k : TestEnd) (h10 : P .journal)
    (h : Reports P m0 a0 j0 s.mem s.atc s.jrw) :
    Reports P m0 a0 j0 (s.testToWatch r k).mem (s.testToWatch r k).atc (s.testToWatch r k).jrw := by
  generalize hu : s.testToWatch r k = t
  unfold State.testToWatch at hu
  try dsimp only at hu
  subst hu
  simp (maxDischargeDepth := 20) [*]

@[simp] theorem State.judgeTest_reports (s : State) (h3 : P .lift) (h10 : P .journal)
    (h : Reports P m0 a0 j0 s.mem s.atc s.jrw) :
    Reports P m0 a0 j0 s.judgeTest.mem s.judgeTest.atc s.judgeTest.jrw := by
  generalize hu : s.judgeTest = t
  unfold State.judgeTest at hu
  try dsimp only at hu
  (repeat' split at hu) <;> (subst hu; simp (maxDischargeDepth := 20) [*])

@[simp] theorem State.judgeBrake_reports (s : State) (h10 : P .journal)
    (h : Reports P m0 a0 j0 s.mem s.atc s.jrw) :
    Reports P m0 a0 j0 s.judgeBrake.mem s.judgeBrake.atc s.judgeBrake.jrw := by
  generalize hu : s.judgeBrake = t
  unfold State.judgeBrake at hu
  try dsimp only at hu
  (repeat' split at hu) <;> (subst hu; simp (maxDischargeDepth := 20) [*])

@[simp] theorem State.judgeHoldoff_reports (s : State) (h3 : P .lift) (h10 : P .journal)
    (h : Reports P m0 a0 j0 s.mem s.atc s.jrw) :
    Reports P m0 a0 j0 s.judgeHoldoff.mem s.judgeHoldoff.atc s.judgeHoldoff.jrw := by
  generalize hu : s.judgeHoldoff = t
  unfold State.judgeHoldoff at hu
  try dsimp only at hu
  (repeat' split at hu) <;> (subst hu; simp (maxDischargeDepth := 20) [*])

@[simp] theorem State.judgeStage_reports (s : State) (h3 : P .lift) (h9 : P .air) (h10 : P .journal)
    (h : Reports P m0 a0 j0 s.mem s.atc s.jrw) :
    Reports P m0 a0 j0 s.judgeStage.mem s.judgeStage.atc s.judgeStage.jrw := by
  generalize hu : s.judgeStage = t
  unfold State.judgeStage at hu
  try dsimp only at hu
  (repeat' split at hu) <;> (subst hu; simp (maxDischargeDepth := 20) [*])

@[simp] theorem State.judgeUnavailable_reports (s : State) (h10 : P .journal)
    (h : Reports P m0 a0 j0 s.mem s.atc s.jrw) :
    Reports P m0 a0 j0 s.judgeUnavailable.mem s.judgeUnavailable.atc s.judgeUnavailable.jrw := by
  generalize hu : s.judgeUnavailable = t
  unfold State.judgeUnavailable at hu
  try dsimp only at hu
  (repeat' split at hu) <;> (subst hu; simp (maxDischargeDepth := 20) [*])

@[simp] theorem State.judgeRollover_reports (s : State) (h3 : P .lift) (h9 : P .air) (h10 : P .journal)
    (h : Reports P m0 a0 j0 s.mem s.atc s.jrw) :
    Reports P m0 a0 j0 s.judgeRollover.mem s.judgeRollover.atc s.judgeRollover.jrw := by
  generalize hu : s.judgeRollover = t
  unfold State.judgeRollover at hu
  try dsimp only at hu
  (repeat' split at hu) <;> (subst hu; simp (maxDischargeDepth := 20) [*])

@[simp] theorem State.evaluate_reports (s : State) (h0 : P .device) (h3 : P .lift) (h7 : P .rollover) (h9 : P .air)
    (h10 : P .journal)
    (h : Reports P m0 a0 j0 s.mem s.atc s.jrw) :
    Reports P m0 a0 j0 s.evaluate.mem s.evaluate.atc s.evaluate.jrw := by
  generalize hu : s.evaluate = t
  unfold State.evaluate at hu
  try dsimp only at hu
  (repeat' split at hu) <;> (subst hu; simp (maxDischargeDepth := 20) [*])

@[simp] theorem State.evaluationExpired_reports (s : State) (h0 : P .device) (h3 : P .lift) (h7 : P .rollover)
    (h9 : P .air) (h10 : P .journal)
    (h : Reports P m0 a0 j0 s.mem s.atc s.jrw) :
    Reports P m0 a0 j0 s.evaluationExpired.mem s.evaluationExpired.atc s.evaluationExpired.jrw := by
  generalize hu : s.evaluationExpired = t
  unfold State.evaluationExpired at hu
  try dsimp only at hu
  (repeat' split at hu) <;> (subst hu; simp (maxDischargeDepth := 20) [*])

@[simp] theorem State.adoptTyre_reports (s : State) (h0 : P .device) (h8 : P .tyres) (h10 : P .journal)
    (h : Reports P m0 a0 j0 s.mem s.atc s.jrw) :
    Reports P m0 a0 j0 s.adoptTyre.mem s.adoptTyre.atc s.adoptTyre.jrw := by
  generalize hu : s.adoptTyre = t
  unfold State.adoptTyre at hu
  try dsimp only at hu
  (repeat' split at hu) <;> (subst hu; simp (maxDischargeDepth := 20) [*])

@[simp] theorem State.offerTyre_reports (s : State) (h0 : P .device) (h8 : P .tyres) (h10 : P .journal)
    (h : Reports P m0 a0 j0 s.mem s.atc s.jrw) :
    Reports P m0 a0 j0 s.offerTyre.mem s.offerTyre.atc s.offerTyre.jrw := by
  generalize hu : s.offerTyre = t
  unfold State.offerTyre at hu
  try dsimp only at hu
  (repeat' split at hu) <;> (subst hu; simp (maxDischargeDepth := 20) [*])

@[simp] theorem State.telegramEnded_reports (s : State) (h0 : P .device) (h8 : P .tyres) (h10 : P .journal)
    (h : Reports P m0 a0 j0 s.mem s.atc s.jrw) :
    Reports P m0 a0 j0 s.telegramEnded.mem s.telegramEnded.atc s.telegramEnded.jrw := by
  generalize hu : s.telegramEnded = t
  unfold State.telegramEnded at hu
  try dsimp only at hu
  subst hu
  simp (maxDischargeDepth := 20) [*]

@[simp] theorem State.discardTelegram_reports (s : State) (e : TelegramError) (h0 : P .device) (h8 : P .tyres)
    (h10 : P .journal)
    (h : Reports P m0 a0 j0 s.mem s.atc s.jrw) :
    Reports P m0 a0 j0 (s.discardTelegram e).mem (s.discardTelegram e).atc (s.discardTelegram e).jrw := by
  generalize hu : s.discardTelegram e = t
  unfold State.discardTelegram at hu
  try dsimp only at hu
  subst hu
  simp (maxDischargeDepth := 20) [*]

@[simp] theorem State.reportTyre_reports (s : State) (k : Nat) (o : TyreState) (x : Slot) (h10 : P .journal)
    (h : Reports P m0 a0 j0 s.mem s.atc s.jrw) :
    Reports P m0 a0 j0 (s.reportTyre k o x).mem (s.reportTyre k o x).atc (s.reportTyre k o x).jrw := by
  generalize hu : s.reportTyre k o x = t
  unfold State.reportTyre at hu
  try dsimp only at hu
  (repeat' split at hu) <;> (subst hu; simp (maxDischargeDepth := 20) [*])

@[simp] theorem State.deliver_reports (s : State) (k : Nat) (b : List Byte) (h10 : P .journal)
    (h : Reports P m0 a0 j0 s.mem s.atc s.jrw) :
    Reports P m0 a0 j0 (s.deliver k b).mem (s.deliver k b).atc (s.deliver k b).jrw := by
  generalize hu : s.deliver k b = t
  unfold State.deliver at hu
  try dsimp only at hu
  subst hu
  simp (maxDischargeDepth := 20) [*]

@[simp] theorem State.acceptTelegram_reports (s : State) (b : List Byte) (h0 : P .device) (h8 : P .tyres)
    (h10 : P .journal)
    (h : Reports P m0 a0 j0 s.mem s.atc s.jrw) :
    Reports P m0 a0 j0 (s.acceptTelegram b).mem (s.acceptTelegram b).atc (s.acceptTelegram b).jrw := by
  generalize hu : s.acceptTelegram b = t
  unfold State.acceptTelegram at hu
  try dsimp only at hu
  (repeat' split at hu) <;> (subst hu; simp (maxDischargeDepth := 20) [*])

@[simp] theorem State.telegramComplete_reports (s : State) (b : List Byte) (h0 : P .device) (h8 : P .tyres)
    (h10 : P .journal)
    (h : Reports P m0 a0 j0 s.mem s.atc s.jrw) :
    Reports P m0 a0 j0 (s.telegramComplete b).mem (s.telegramComplete b).atc (s.telegramComplete b).jrw := by
  generalize hu : s.telegramComplete b = t
  unfold State.telegramComplete at hu
  try dsimp only at hu
  (repeat' split at hu) <;> (subst hu; simp (maxDischargeDepth := 20) [*])

@[simp] theorem State.placeCharacter_reports (s : State) (b : Byte) (h0 : P .device) (h8 : P .tyres)
    (h10 : P .journal)
    (h : Reports P m0 a0 j0 s.mem s.atc s.jrw) :
    Reports P m0 a0 j0 (s.placeCharacter b).mem (s.placeCharacter b).atc (s.placeCharacter b).jrw := by
  generalize hu : s.placeCharacter b = t
  unfold State.placeCharacter at hu
  try dsimp only at hu
  (repeat' split at hu) <;> (subst hu; simp (maxDischargeDepth := 20) [*])

@[simp] theorem State.characterInOpen_reports (s : State) (b : Byte) (p : Bool) (q : Bool) (h0 : P .device)
    (h8 : P .tyres) (h10 : P .journal)
    (h : Reports P m0 a0 j0 s.mem s.atc s.jrw) :
    Reports P m0 a0 j0 (s.characterInOpen b p q).mem (s.characterInOpen b p q).atc (s.characterInOpen b p q).jrw := by
  generalize hu : s.characterInOpen b p q = t
  unfold State.characterInOpen at hu
  try dsimp only at hu
  (repeat' split at hu) <;> (subst hu; simp (maxDischargeDepth := 20) [*])

@[simp] theorem State.characterArrived_reports (s : State) (b : Byte) (p : Bool) (q : Bool) (h0 : P .device)
    (h8 : P .tyres) (h10 : P .journal)
    (h : Reports P m0 a0 j0 s.mem s.atc s.jrw) :
    Reports P m0 a0 j0 (s.characterArrived b p q).mem (s.characterArrived b p q).atc (s.characterArrived b p q).jrw := by
  generalize hu : s.characterArrived b p q = t
  unfold State.characterArrived at hu
  try dsimp only at hu
  (repeat' split at hu) <;> (subst hu; simp (maxDischargeDepth := 20) [*])

@[simp] theorem State.gapTimerExpired_reports (s : State) (h0 : P .device) (h8 : P .tyres) (h10 : P .journal)
    (h : Reports P m0 a0 j0 s.mem s.atc s.jrw) :
    Reports P m0 a0 j0 s.gapTimerExpired.mem s.gapTimerExpired.atc s.gapTimerExpired.jrw := by
  generalize hu : s.gapTimerExpired = t
  unfold State.gapTimerExpired at hu
  try dsimp only at hu
  (repeat' split at hu) <;> (subst hu; simp (maxDischargeDepth := 20) [*])

@[simp] theorem State.carrierLost_reports (s : State) (h0 : P .device) (h8 : P .tyres) (h10 : P .journal)
    (h : Reports P m0 a0 j0 s.mem s.atc s.jrw) :
    Reports P m0 a0 j0 s.carrierLost.mem s.carrierLost.atc s.carrierLost.jrw := by
  generalize hu : s.carrierLost = t
  unfold State.carrierLost at hu
  try dsimp only at hu
  (repeat' split at hu) <;> (subst hu; simp (maxDischargeDepth := 20) [*])

@[simp] theorem State.scanSlot_reports (s : State) (k : Nat) (h10 : P .journal)
    (h : Reports P m0 a0 j0 s.mem s.atc s.jrw) :
    Reports P m0 a0 j0 (s.scanSlot k).mem (s.scanSlot k).atc (s.scanSlot k).jrw := by
  generalize hu : s.scanSlot k = t
  unfold State.scanSlot at hu
  try dsimp only at hu
  (repeat' split at hu) <;> (subst hu; simp (maxDischargeDepth := 20) [*])

theorem foldScan_reports (h10 : P .journal) : ∀ (l : List Nat) (s : State), Reports P m0 a0 j0 s.mem s.atc s.jrw →
    Reports P m0 a0 j0 (l.foldl State.scanSlot s).mem (l.foldl State.scanSlot s).atc (l.foldl State.scanSlot s).jrw := by
  intro l
  induction l with
  | nil => intro s h; exact h
  | cons k xs ih =>
    intro s h
    exact ih _ (by simp (maxDischargeDepth := 20) [*])

@[simp] theorem State.scanSlots_reports (s : State) (h10 : P .journal)
    (h : Reports P m0 a0 j0 s.mem s.atc s.jrw) :
    Reports P m0 a0 j0 s.scanSlots.mem s.scanSlots.atc s.scanSlots.jrw := by
  have h2 := foldScan_reports (by assumption) (List.range s.tyu.slots.length) s h
  generalize hu : s.scanSlots = t
  unfold State.scanSlots at hu
  dsimp only at hu
  split at hu <;> (subst hu; simp_all (maxDischargeDepth := 20))

@[simp] theorem State.scanExpired_reports (s : State) (h8 : P .tyres) (h10 : P .journal)
    (h : Reports P m0 a0 j0 s.mem s.atc s.jrw) :
    Reports P m0 a0 j0 s.scanExpired.mem s.scanExpired.atc s.scanExpired.jrw := by
  generalize hu : s.scanExpired = t
  unfold State.scanExpired at hu
  try dsimp only at hu
  (repeat' split at hu) <;> (subst hu; simp (maxDischargeDepth := 20) [*])

@[simp] theorem State.sampleReaches_reports (s : State) (i : Input) (h0 : P .device) (h9 : P .air) (h10 : P .journal)
    (h : Reports P m0 a0 j0 s.mem s.atc s.jrw) :
    Reports P m0 a0 j0 (s.sampleReaches i).mem (s.sampleReaches i).atc (s.sampleReaches i).jrw := by
  generalize hu : s.sampleReaches i = t
  unfold State.sampleReaches at hu
  try dsimp only at hu
  (repeat' split at hu) <;> (subst hu; simp (maxDischargeDepth := 20) [*])

@[simp] theorem State.sampleCompleted_reports (s : State) (i : Input) (n : BitVec 12) (h0 : P .device) (h9 : P .air)
    (h10 : P .journal)
    (h : Reports P m0 a0 j0 s.mem s.atc s.jrw) :
    Reports P m0 a0 j0 (s.sampleCompleted i n).mem (s.sampleCompleted i n).atc (s.sampleCompleted i n).jrw := by
  generalize hu : s.sampleCompleted i n = t
  unfold State.sampleCompleted at hu
  try dsimp only at hu
  (repeat' split at hu) <;> (subst hu; simp (maxDischargeDepth := 20) [*])

@[simp] theorem State.faultReaches_reports (s : State) (i : Input) (h5 : P .slip) (h6 : P .modulator)
    (h10 : P .journal)
    (h : Reports P m0 a0 j0 s.mem s.atc s.jrw) :
    Reports P m0 a0 j0 (s.faultReaches i).mem (s.faultReaches i).atc (s.faultReaches i).jrw := by
  generalize hu : s.faultReaches i = t
  unfold State.faultReaches at hu
  try dsimp only at hu
  (repeat' split at hu) <;> (subst hu; simp (maxDischargeDepth := 20) [*])

@[simp] theorem State.declareFault_reports (s : State) (i : Input) (h5 : P .slip) (h6 : P .modulator)
    (h10 : P .journal)
    (h : Reports P m0 a0 j0 s.mem s.atc s.jrw) :
    Reports P m0 a0 j0 (s.declareFault i).mem (s.declareFault i).atc (s.declareFault i).jrw := by
  generalize hu : s.declareFault i = t
  unfold State.declareFault at hu
  try dsimp only at hu
  subst hu
  simp (maxDischargeDepth := 20) [*]

@[simp] theorem State.staleTimerExpired_reports (s : State) (i : Input) (h5 : P .slip) (h6 : P .modulator)
    (h10 : P .journal)
    (h : Reports P m0 a0 j0 s.mem s.atc s.jrw) :
    Reports P m0 a0 j0 (s.staleTimerExpired i).mem (s.staleTimerExpired i).atc (s.staleTimerExpired i).jrw := by
  generalize hu : s.staleTimerExpired i = t
  unfold State.staleTimerExpired at hu
  try dsimp only at hu
  (repeat' split at hu) <;> (subst hu; simp (maxDischargeDepth := 20) [*])

@[simp] theorem State.clearFault_reports (s : State) (i : Input) (h10 : P .journal)
    (h : Reports P m0 a0 j0 s.mem s.atc s.jrw) :
    Reports P m0 a0 j0 (s.clearFault i).mem (s.clearFault i).atc (s.clearFault i).jrw := by
  generalize hu : s.clearFault i = t
  unfold State.clearFault at hu
  try dsimp only at hu
  (repeat' split at hu) <;> (subst hu; simp (maxDischargeDepth := 20) [*])

@[simp] theorem State.recoveryTimerExpired_reports (s : State) (i : Input) (h10 : P .journal)
    (h : Reports P m0 a0 j0 s.mem s.atc s.jrw) :
    Reports P m0 a0 j0 (s.recoveryTimerExpired i).mem (s.recoveryTimerExpired i).atc (s.recoveryTimerExpired i).jrw := by
  generalize hu : s.recoveryTimerExpired i = t
  unfold State.recoveryTimerExpired at hu
  try dsimp only at hu
  (repeat' split at hu) <;> (subst hu; simp (maxDischargeDepth := 20) [*])

@[simp] theorem State.sectionTimerExpired_reports (s : State) {a : Atc} {j : Jrw} (h1 : P .sensors)
    (h : Reports P m0 a0 j0 s.mem a j) :
    Reports P m0 a0 j0 s.sectionTimerExpired.mem a j := by
  generalize hu : s.sectionTimerExpired = t
  unfold State.sectionTimerExpired at hu
  try dsimp only at hu
  (repeat' split at hu) <;> (subst hu; simp (maxDischargeDepth := 20) [*])

@[simp] theorem State.writeSafeSections_reports (s : State) {a : Atc} {j : Jrw} (h1 : P .sensors) (h2 : P .demand)
    (h3 : P .lift) (h4 : P .wheels) (h5 : P .slip) (h6 : P .modulator) (h7 : P .rollover) (h8 : P .tyres)
    (h9 : P .air)
    (h : Reports P m0 a0 j0 s.mem a j) :
    Reports P m0 a0 j0 s.writeSafeSections.mem a j := by
  exact .rewrite _ _ _ (by assumption) (.rewrite _ _ _ (by assumption) (.rewrite _ _ _ (by assumption) (.rewrite _ _ _ (by assumption) (.rewrite _ _ _ (by assumption) (.rewrite _ _ _ (by assumption) (.rewrite _ _ _ (by assumption) (.rewrite _ _ _ (by assumption) (.rewrite _ _ _ (by assumption) h))))))))

@[simp] theorem State.enterUnconfigured_reports (s : State) (h0 : P .device) (h5 : P .slip) (h6 : P .modulator)
    (h8 : P .tyres) (h10 : P .journal)
    (h : Reports P m0 a0 j0 s.mem s.atc s.jrw) :
    Reports P m0 a0 j0 s.enterUnconfigured.mem s.enterUnconfigured.atc s.enterUnconfigured.jrw := by
  generalize hu : s.enterUnconfigured = t
  unfold State.enterUnconfigured at hu
  try dsimp only at hu
  subst hu
  simp (maxDischargeDepth := 20) [*]

@[simp] theorem State.enterSafe_reports (s : State) (h0 : P .device) (h1 : P .sensors) (h2 : P .demand) (h3 : P .lift)
    (h4 : P .wheels) (h5 : P .slip) (h6 : P .modulator) (h7 : P .rollover) (h8 : P .tyres) (h9 : P .air)
    (h10 : P .journal)
    (h : Reports P m0 a0 j0 s.mem s.atc s.jrw) :
    Reports P m0 a0 j0 s.enterSafe.mem s.enterSafe.atc s.enterSafe.jrw := by
  generalize hu : s.enterSafe = t
  unfold State.enterSafe at hu
  try dsimp only at hu
  subst hu
  simp (maxDischargeDepth := 20) [*]

@[simp] theorem State.loadCompleted_reports (s : State) (h0 : P .device) (h1 : P .sensors) (h2 : P .demand)
    (h3 : P .lift) (h4 : P .wheels) (h5 : P .slip) (h6 : P .modulator) (h7 : P .rollover) (h8 : P .tyres)
    (h9 : P .air) (h10 : P .journal)
    (h : Reports P m0 a0 j0 s.mem s.atc s.jrw) :
    Reports P m0 a0 j0 s.loadCompleted.mem s.loadCompleted.atc s.loadCompleted.jrw := by
  generalize hu : s.loadCompleted = t
  unfold State.loadCompleted at hu
  try dsimp only at hu
  (repeat' split at hu) <;> (subst hu; simp (maxDischargeDepth := 20) [*])

end Operations

end Sys2Proof.Machine
end

