-- ==== Sys2Proof/Laws/Port.lean ====
section
/-! SUPPORT. Laws/Port.lean: the registers' actions do not look at the transaction that reaches them, and each register row
of the opcode table is a READ or WRITE transaction of two bytes at the register's address (R159, log 10). -/

namespace Sys2Proof.Machine

/-! ### What a register's write does is the same whatever transaction is in progress -/

theorem State.setTxn_judgeRoom (s : State) (x : Option Transaction) : (s.setTxn x).judgeRoom = s.judgeRoom.setTxn x := by
  unfold State.judgeRoom
  dsimp only
  split <;> rename_i h
  · exact (if_pos h).symm ▸ rfl
  · exact (if_neg h).symm ▸ rfl

theorem State.setTxn_writeRecord (s : State) (r : Record) (x : Option Transaction) :
    (s.setTxn x).writeRecord r = (s.writeRecord r).setTxn x := rfl

theorem State.setTxn_dropRecord (s : State) (x : Option Transaction) :
    (s.setTxn x).dropRecord = s.dropRecord.setTxn x := rfl

theorem State.setTxn_placeRecord (s : State) (r : Record) (x : Option Transaction) :
    (s.setTxn x).placeRecord r = (s.placeRecord r).setTxn x := by
  unfold State.placeRecord
  by_cases h0 : s.jrw.free = 0
  · rw [if_pos h0]; exact (if_pos h0).trans rfl
  · rw [if_neg h0]
    refine (if_neg h0).trans ?_
    by_cases h1 : s.jrw.drops = 0
    · rw [if_pos h1]; exact (if_pos h1).trans rfl
    · rw [if_neg h1]
      refine (if_neg h1).trans ?_
      by_cases h2 : s.jrw.free = 1
      · rw [if_pos h2]; exact (if_pos h2).trans rfl
      · rw [if_neg h2]; exact (if_neg h2).trans rfl

theorem State.setTxn_hand (s : State) (r : Record) (x : Option Transaction) :
    (s.setTxn x).hand r = (s.hand r).setTxn x := by
  unfold State.hand
  rw [State.setTxn_judgeRoom, State.setTxn_placeRecord]
  exact (apply_ite (fun t : State => t.setTxn x) _ _ _).symm

theorem State.setTxn_takeOutcome (s : State) (r : Request) (o : Outcome) (x : Option Transaction) :
    (s.setTxn x).takeOutcome r o = (s.takeOutcome r o).setTxn x := by
  unfold State.takeOutcome
  dsimp only
  rw [← State.setTxn_hand]
  rfl

theorem State.setTxn_adoptReport (s : State) (x : Option Transaction) : (s.setTxn x).adoptReport = s.adoptReport.setTxn x := by
  have hv : (s.setTxn x).reportVerdict = s.reportVerdict := rfl
  unfold State.adoptReport
  rw [hv]
  generalize s.reportVerdict = v
  have h : { s.setTxn x with jrw := { (s.setTxn x).jrw with group := ReportGroup.ofFields v.2 } } =
      State.setTxn { s with jrw := { s.jrw with group := ReportGroup.ofFields v.2 } } x := rfl
  dsimp only
  rw [h, State.setTxn_takeOutcome, State.setTxn_judgeRoom]

theorem State.setTxn_adoptTyre (s : State) (x : Option Transaction) : (s.setTxn x).adoptTyre = s.adoptTyre.setTxn x := by
  have hv : (s.setTxn x).tyreVerdict = s.tyreVerdict := rfl
  unfold State.adoptTyre
  rw [hv]
  by_cases h : s.tyreVerdict.1.isAccepted = true
  · simp only [h, if_true]
    rw [show (s.setTxn x).adoptTyreGroup s.tyreVerdict.2 = (s.adoptTyreGroup s.tyreVerdict.2).setTxn x from rfl,
      State.setTxn_takeOutcome]
    rfl
  · simp only [h]
    exact State.setTxn_takeOutcome _ _ _ _

theorem State.setTxn_offerTyre (s : State) (x : Option Transaction) : (s.setTxn x).offerTyre = s.offerTyre.setTxn x := by
  unfold State.offerTyre
  rw [State.setTxn_adoptTyre]
  exact (apply_ite (fun t : State => t.setTxn x) _ _ _).symm

theorem State.setTxn_request (s : State) (r : Request) (x : Option Transaction) :
    (s.setTxn x).request r = (s.request r).setTxn x := by
  have hr : ((s.setTxn x).setPending r).requestReaches r = ((s.setPending r).requestReaches r).setTxn x := by
    cases r with
    | tyre => exact State.setTxn_offerTyre (s.setPending .tyre) x
    | report => exact State.setTxn_adoptReport (s.setPending .report) x
    | _ => rfl
  unfold State.request
  rw [hr, show (s.setTxn x).isPending r = s.isPending r from rfl]
  exact (apply_ite (fun t : State => t.setTxn x) _ _ _).symm

theorem State.setTxn_writeTake (s : State) (v : Half) (x : Option Transaction) :
    (s.setTxn x).writeTake v = (s.writeTake v).setTxn x := by
  unfold State.writeTake
  suffices h : ∀ (l : List Request) (u : State),
      l.foldl (fun t r => if v.getLsbD r.index then t.request r else t) (u.setTxn x) =
        (l.foldl (fun t r => if v.getLsbD r.index then t.request r else t) u).setTxn x from h _ _
  intro l
  induction l with
  | nil => intro u; rfl
  | cons r l ih =>
    intro u
    simp only [List.foldl_cons, State.setTxn_request]
    rw [← apply_ite (fun t : State => t.setTxn x), ih]

theorem State.setTxn_endLevel (s : State) (l : Level) (x : Option Transaction) :
    (s.setTxn x).endLevel l = (s.endLevel l).setTxn x := by
  have ha : ∀ u : State, (u.setTxn x).askJournal l = (u.askJournal l).setTxn x := by
    intro u
    unfold State.askJournal
    rw [State.setTxn_judgeRoom]
    exact (apply_ite (fun t : State => t.setTxn x) _ _ _).symm
  have h : { s.setTxn x with atc := (s.setTxn x).atc.leave l } = State.setTxn { s with atc := s.atc.leave l } x := rfl
  unfold State.endLevel
  dsimp only
  rw [h, ha]
  rfl

theorem State.setTxn_writeEnd (s : State) (v : Half) (x : Option Transaction) :
    (s.setTxn x).writeEnd v = (s.writeEnd v).setTxn x := by
  unfold State.writeEnd
  rw [show (s.setTxn x).atc = s.atc from rfl]
  cases s.atc.endTarget v with
  | none => rfl
  | some l => exact State.setTxn_endLevel s l x

/-- R159: the write action of a register is the same whatever transaction is in progress. -/
theorem State.setTxn_registerWrite (s : State) (v : Half) (r : Register) (x : Option Transaction) :
    (s.setTxn x).registerWrite v r = (s.registerWrite v r).setTxn x := by
  cases r
  · rfl
  · rfl
  · rfl
  · exact State.setTxn_writeEnd s v x
  · rfl
  · exact State.setTxn_writeTake s v x

/-! ### The register rows as transactions -/

/-- Table 10.5: the address of a register. -/
def Register.address : Register → Byte × Byte
  | .ident => (0x3F, 0xF0)
  | .health => (0x3F, 0xF2)
  | .attnPoll => (0x3F, 0xF4)
  | .attnEnd => (0x3F, 0xF6)
  | .attnMask => (0x3F, 0xF8)
  | .take => (0x3F, 0xFA)

/-- R158: with the transaction in progress ended, none is in progress. -/
theorem State.endTransaction_setTxn (s : State) : s.endTransaction.setTxn none = s.endTransaction := by
  unfold State.endTransaction
  split
  · rename_i h
    unfold State.setTxn
    rw [← h]
  · rfl

/-- The last transaction set stands. -/
theorem State.setTxn_setTxn (s : State) (x y : Option Transaction) : (s.setTxn x).setTxn y = s.setTxn y := rfl

/-- R158: after the three header bytes of a READ the transaction reads from its address on. -/
theorem State.portByte_readHeader (u : State) (high low : Byte) :
    [0x6C, high, low].foldl State.portByte (u.setTxn (some (.header []))) =
      { u with port := { txn := some (.data (Txn.begun .reading (high ++ low))), out := [] } } := rfl

/-- R158: after the three header bytes of a WRITE the transaction writes from its address on. -/
theorem State.portByte_writeHeader (u : State) (high low : Byte) :
    [0x6E, high, low].foldl State.portByte (u.setTxn (some (.header []))) =
      u.setTxn (some (.data (Txn.begun .writing (high ++ low)))) := rfl

/-- Where the two bytes of a register lie: in the register area, the lower one at an even address. -/
theorem Register.begun (r : Register) (d : Direction) : let t := Txn.begun d (r.address.1 ++ r.address.2)
    (isMemory t.addr = false ∧ isRegister t.addr = true ∧ t.addr % 2 = 0 ∧ registerAt t.addr = r) ∧
    (isMemory t.advance.addr = false ∧ isRegister t.advance.addr = true ∧ t.advance.addr % 2 = 1 ∧
      registerAt t.advance.addr = r) := by
  cases r <;> cases d <;> decide

/-- R159: a READ of the lower byte of a register takes its read action and latches its value. -/
theorem State.readData_low (u : State) (t : Txn) (hm : isMemory t.addr = false) (hr : isRegister t.addr = true)
    (he : t.addr % 2 = 0) : u.readData t =
      let v := u.registerValue (registerAt t.addr)
      let w := u.registerRead (registerAt t.addr)
      { w with port := { txn := some (.data { t with regLatch := some v }.advance), out := w.port.out ++ [byteOf v 0] } } := by
  have hb : ∀ v, byteOf v t.addr = byteOf v 0 := fun v => by unfold byteOf; rw [if_pos he]; rfl
  unfold State.readData State.readByte
  simp [hm, hr, he, hb]

/-- R159: a READ of the higher byte of a register next returns the higher byte of the latch. -/
theorem State.readData_high (u : State) (t : Txn) (v : Half) (hm : isMemory t.addr = false)
    (hr : isRegister t.addr = true) (ho : t.addr % 2 = 1) (hl : t.regLatch = some v) : u.readData t =
      { u with port := { txn := some (.data { t with regLatch := none }.advance), out := u.port.out ++ [byteOf v 1] } } := by
  have hb : byteOf v t.addr = byteOf v 1 := by unfold byteOf; rw [if_neg (by omega)]; rfl
  unfold State.readData State.readByte
  simp [hm, hr, ho, hl, hb]

/-- R159: a WRITE of both bytes of a register takes its write action at the higher one. -/
theorem State.writeData_register (u : State) (t : Txn) (low high : Byte) (h : (isMemory t.addr = false ∧
      isRegister t.addr = true ∧ t.addr % 2 = 0) ∧ isMemory t.advance.addr = false ∧
      isRegister t.advance.addr = true ∧ t.advance.addr % 2 = 1) :
    (u.writeData t low).writeData { t with regLow := some low }.advance high =
      ((u.setTxn (some (.data { t with regLow := some low }.advance))).registerWrite (high ++ low)
        (registerAt t.advance.addr)).setTxn (some (.data { { t with regLow := some low }.advance with regLow := none }.advance)) := by
  obtain ⟨⟨h1, h2, h3⟩, h4, h5, h6⟩ := h
  have h7 : ({ t with regLow := some low } : Txn).advance.addr = t.advance.addr := rfl
  have h8 : ({ t with regLow := some low } : Txn).advance.regLow = some low := rfl
  unfold State.writeData State.writeByte State.writeRegisterByte
  simp [h1, h2, h3, h7, h8, h4, h5, h6]


/-- R159: the read action of a register is the same whatever transaction is in progress, and leaves the port alone. -/
theorem State.registerRead_port (u : State) (r : Register) (p : Port) :
    { u with port := p }.registerRead r = { u.registerRead r with port := p } := by
  cases r <;> rfl

theorem State.portByte_reading {s : State} {t : Txn} (b : Byte) (h : s.port.txn = some (.data t)) (hd : t.dir = .reading) :
    s.portByte b = s.readData t := by
  unfold State.portByte
  rw [h]
  dsimp only
  rw [hd]

theorem State.portByte_writing {s : State} {t : Txn} (b : Byte) (h : s.port.txn = some (.data t)) (hd : t.dir = .writing) :
    s.portByte b = s.writeData t b := by
  unfold State.portByte
  rw [h]
  dsimp only
  rw [hd]

/-- R158: the end of a transaction with nothing to commit. -/
theorem State.endTransaction_nothing {s : State} {t : Txn} (h : s.port.txn = some (.data t)) (hc : t.collected = []) :
    s.endTransaction = s.setTxn none := by
  unfold State.endTransaction
  rw [h]
  dsimp only [Transaction.collected]
  rw [hc]
  rfl

/-- R158, R159: a READ of both bytes of a register is the register row's read. -/
theorem State.portPart_readRegister (s : State) (r : Register) (a b : Byte) :
    s.portPart true [0x6C, r.address.1, r.address.2, a, b] true = s.readRegister r := by
  unfold State.portPart State.readRegister State.beginTransaction
  by_cases h : s.pins.nreset = true
  · rw [if_pos h, if_pos h]
  · rw [if_neg h, if_neg h, ← State.endTransaction_setTxn]
    generalize s.endTransaction = u
    obtain ⟨⟨h1, h2, h3, h4⟩, h5, h6, h7, h8⟩ := r.begun .reading
    have hd : (Txn.begun .reading (r.address.1 ++ r.address.2)).dir = .reading := rfl
    have hc : (Txn.begun .reading (r.address.1 ++ r.address.2)).collected = [] := rfl
    simp only [if_true]
    rw [show [0x6C, r.address.1, r.address.2, a, b] = [0x6C, r.address.1, r.address.2] ++ [a, b] from rfl,
      List.foldl_append, State.portByte_readHeader]
    generalize Txn.begun .reading (r.address.1 ++ r.address.2) = t at h1 h2 h3 h4 h5 h6 h7 h8 hd hc ⊢
    simp only [List.foldl_cons, List.foldl_nil]
    rw [State.portByte_reading (t := t) a rfl hd, State.readData_low _ t h1 h2 h3, h4]
    dsimp only
    have hv : ∀ p : Port, { u.setTxn none with port := p }.registerValue r = (u.setTxn none).registerValue r := by
      intro p; cases r <;> rfl
    rw [hv]
    generalize (u.setTxn none).registerValue r = v
    rw [State.portByte_reading (t := ({ t with regLatch := some v } : Txn).advance) b rfl hd,
      State.readData_high _ ({ t with regLatch := some v } : Txn).advance v h5 h6 h7 rfl]
    refine (State.endTransaction_nothing
      (t := ({ ({ t with regLatch := some v } : Txn).advance with regLatch := none } : Txn).advance) rfl hc).trans ?_
    cases r <;> rfl

/-- R158, R159: a WRITE of both bytes of a register, the lower first, is the register row's write. -/
theorem State.portPart_writeRegister (s : State) (r : Register) (low high : Byte) :
    s.portPart true [0x6E, r.address.1, r.address.2, low, high] true = s.writeRegister r (high ++ low) := by
  unfold State.portPart State.writeRegister State.beginTransaction
  by_cases h : s.pins.nreset = true
  · rw [if_pos h, if_pos h]
  · rw [if_neg h, if_neg h, ← State.endTransaction_setTxn]
    generalize s.endTransaction = u
    obtain ⟨⟨h1, h2, h3, h4⟩, h5, h6, h7, h8⟩ := r.begun .writing
    have hd : (Txn.begun .writing (r.address.1 ++ r.address.2)).dir = .writing := rfl
    have hc : (Txn.begun .writing (r.address.1 ++ r.address.2)).collected = [] := rfl
    simp only [if_true]
    rw [show [0x6E, r.address.1, r.address.2, low, high] = [0x6E, r.address.1, r.address.2] ++ [low, high] from rfl,
      List.foldl_append, State.portByte_writeHeader]
    generalize Txn.begun .writing (r.address.1 ++ r.address.2) = t at h1 h2 h3 h4 h5 h6 h7 h8 hd hc ⊢
    have hl : (((u.setTxn none).setTxn (some (.data t))).writeData t low).port.txn =
        some (.data { t with regLow := some low }.advance) := by
      unfold State.writeData State.writeByte State.writeRegisterByte
      simp [h1, h2, h3]
    simp only [List.foldl_cons, List.foldl_nil]
    rw [State.portByte_writing (t := t) low rfl hd, State.portByte_writing high hl hd,
      State.writeData_register _ t low high ⟨⟨h1, h2, h3⟩, h5, h6, h7⟩, h8]
    refine (State.endTransaction_nothing (t := ({ ({ t with regLow := some low } : Txn).advance with
      regLow := none } : Txn).advance) rfl hc).trans ?_
    simp only [State.setTxn_registerWrite, State.setTxn_setTxn]

end Sys2Proof.Machine
end

