-- ==== Sys2Proof/Laws/Statements.lean ====
section
/-! SUPPORT. Laws/Statements.lean: the small lemmas of the words that the statements share: where a result may differ,
what a section shows, which records the journal took. -/

namespace Sys2Proof.Machine

/-! ### Where memory is as before -/

theorem sameOutside_refl (l : List Section) (s : State) : sameOutside l s s := fun _ _ _ => rfl

theorem sameOutside_of_mem_eq {s t : State} (l : List Section) (h : t.mem = s.mem) : sameOutside l s t := by
  intro x _ _; rw [h]

theorem sameOutside.trans {l : List Section} {s t u : State} (h : sameOutside l s t) (k : sameOutside l t u) :
    sameOutside l s u := fun x a b => (k x a b).trans (h x a b)

theorem sameOutside.mono {l m : List Section} {s t : State} (h : sameOutside l s t) (sub : ∀ x ∈ l, x ∈ m) :
    sameOutside m s t := fun x a b => h x (fun sec i => a sec (sub sec i)) (fun i => b (sub _ i))

/-! ### What a section shows -/

theorem State.shows_congr {s t : State} (h : s.mem = t.mem) (sec : Section) (items : List Item) :
    s.shows sec items ↔ t.shows sec items := by
  unfold State.shows State.headStamp; rw [h]

theorem rewrote.shows {s t : State} {sec : Section} {items : List Item} (h : rewrote s t sec items) :
    t.shows sec items := h.1

theorem rewrote.stamp {s t : State} {sec : Section} {items : List Item} (h : rewrote s t sec items) :
    t.headStamp sec = (s.headStamp sec + 1) % 65536 := h.2

/-! ### The records the journal took -/

theorem recorded_nil (s t : State) :
    recorded s t [] ↔ t.jrw = s.jrw ∧ ∀ x, 0x1400 ≤ x → Memory.byte t.mem x = Memory.byte s.mem x := Iff.rfl

theorem recorded_cons (s t : State) (r : Record) (l : List Record) :
    recorded s t (r :: l) ↔ recorded (s.hand r) t l := Iff.rfl

theorem recorded_append (s t : State) (k l : List Record) :
    recorded s t (k ++ l) ↔ recorded (k.foldl State.hand s) t l := by
  unfold recorded; rw [List.foldl_append]

theorem takenRecords_of_not_pending {s t : State} {r : Request} (h : s.isPending r = false) : takenRecords s t r = [] := by
  simp [takenRecords, h]

theorem takenRecords_of_taken {s t : State} {r : Request} (h : s.isPending r = true) (k : t.isPending r = false) :
    takenRecords s t r = [t.reportRecord r] := by
  simp [takenRecords, h, k]

theorem State.reportRecord_eq (t : State) (r : Request) : t.reportRecord r = takeRecord r (t.xpt.reports.get r) := rfl

theorem closedRecords_of_rest {s : State} {c : Channel} (t : State) (reason : Nat)
    (h : (s.slip c).state.inEpisode = false) : closedRecords s t c reason = [] := by
  unfold closedRecords; revert h; cases k : (s.slip c).state <;> simp [SlipState.inEpisode, k]

theorem levelRecords_of_eq {s t : State} (h : t.aac.critical = s.aac.critical) : levelRecords s t = [] := by
  simp [levelRecords, h]

theorem handsOne.recorded {s t : State} {r : Record} (h : handsOne s t r) : recorded s t [r] :=
  ⟨h.2, fun x _ => by rw [h.1]; rfl⟩

end Sys2Proof.Machine
end

