-- ==== Sys2Proof/Tests/Slice0.lean ====
section
/-! SUPPORT. Tests/Slice0.lean: the WellFormed smoke, the manual's worked examples, and for every statement that has
hypotheses a concrete state and operands that meet them (witness theorems), clause by clause at the boundary values. -/

namespace Sys2Proof.Tests

open Sys2Proof.Machine

section

set_option Elab.async false

/-! ### A small state in ACTIVE -/

/-- An entry in VALID with a value. -/
def reading (v : Int) : Entry := { Entry.reset with value := v, state := .valid }

/-- The VEHICLE settings of Sections 2.8.1 and 2.8.2: a lift axle with front bellows, 3200 mm and 100 teeth. -/
def vehicle : VehicleGroup :=
  { kind := .lift, bellowsUsed := true
    front := { b0 := 70, l0 := 300, g := 640, lempty := 300, lladen := 900, e := 1229 }
    rear := { b0 := 80, l0 := 450, g := 785, lempty := 450, lladen := 1800, e := 1638 }
    circumference := 3200, teeth := 100, fitted := ⟨true, true, true, true, true, true⟩ }

/-- A channel in REGULATE with an empty cause set. -/
def regulating : ChannelRecord :=
  { ChannelRecord.reset with
    mode := .regulate
    causes := { ChannelRecord.reset.causes with sourceNone := false, notActive := false } }

/-- A channel in PASS. -/
def passing : SlipRecord := { SlipRecord.reset with state := .pass }

/-- A wheel end in order at a corrected speed. -/
def rolling (v : Int) : WheelEnd := { WheelEnd.reset with v := v, c := 4096, vc := v, prevVc := some v }

/-- The demand slot at link GOOD, AUTO, De 400 and stamp 17. -/
def slotMemory : Memory := [(0x0800, 1), (0x0802, 0x90), (0x0803, 1), (0x0804, 17)]

/-- The part in ACTIVE one second after the reset, every input VALID, every period due now, source ELECTRIC. -/
def active : State :=
  { State.reset with
    uptime := 1000000, load := { buffer := exampleStore, due := none }
    sfe := { entries := ⟨reading 390, reading 780, reading 312, reading 296, reading 95, reading 262, reading 262,
               reading 262, reading 0⟩
             trims := ⟨⟨0, 4096⟩, ⟨120, 1290⟩, ⟨0, 4096⟩, ⟨0, 4096⟩, ⟨0, 4096⟩, ⟨0, 4096⟩, ⟨0, 4096⟩, ⟨0, 4096⟩, ⟨2048, 3156⟩⟩
             seed := false, sectionDue := some 1000000 }
    ldu := { Ldu.reset with
      demand := { Demand.reset with
        lastStamp := some 16, changeSeen := true, link := .good, freshness := .fresh, source := .electric }
      lastPeriod := 990, vehicle := some vehicle, due := some 1000000 }
    lfc := { Lfc.reset with state := .lowered }
    wsu := { Wsu.reset with
      wheels := ⟨rolling 1000, rolling 1000, rolling 1000, rolling 1000, rolling 1000, rolling 1000⟩
      vref := 1000, due := some 1000000 }
    scu := { Scu.reset with channels := ⟨passing, passing, passing⟩ }
    mdu := { Mdu.reset with
      channels := ⟨regulating, regulating, regulating⟩, periodEnd := some 10000, due := some 1000000 }
    rou := { Rou.reset with due := some 1000000 }
    tyu := { Tyu.reset with due := some 1000000 }
    xpt := { Xpt.reset with device := .active, loadSum := 0xA5C3 }
    atc := { Atc.reset with
      pending := ⟨false, false, false, false, false, false, false, false⟩
      mask := ⟨false, false, false, false, false, false, false, false⟩, demand := false }
    mem := slotMemory }

/-- The active part has the law of the modes. -/
theorem active_modeLaw : active.modeLaw := by
  refine ⟨rfl, ?_, ?_, ?_, ?_⟩
  · intro c; cases c <;> decide
  · intro c k; cases c <;> cases k <;> decide
  · exact ⟨fun h => absurd rfl h, fun h => by cases h⟩
  · intro c; cases c <;> decide

/-- What a command makes of a state. -/
def ran (c : Instr) (s : State) : State :=
  match exec c s with
  | .next t => t
  | .fault _ => .reset
  | .refused _ => .reset

/-- A timer that is due. -/
theorem dueNow {d now : Nat} (h : d ≤ now) : dueAt (some d) now := ⟨d, rfl, h⟩

/-! ### WellFormed: the ill-formed commands -/

theorem test_read_without_event_illFormed : (Instr.read 5 false [] false).wellFormed = false := by decide

theorem test_write_without_event_illFormed : (Instr.write 5 false [] false).wellFormed = false := by decide

theorem test_read_with_write_command_illFormed : (Instr.read 5 true [0x6E, 0, 0] true).wellFormed = false := by decide

theorem test_write_with_read_command_illFormed : (Instr.write 5 true [0x6C, 0, 0] true).wellFormed = false := by decide

theorem test_port_parts_wellFormed :
    (Instr.read 5 true [] false).wellFormed = true ∧ (Instr.read 5 false [0x6E] false).wellFormed = true ∧
    (Instr.read 5 true [0x6D] true).wellFormed = true ∧ (Instr.write 5 false [] true).wellFormed = true ∧
    (Instr.healthRead 0).wellFormed = true := by decide

/-- No row of the opcode table gives bits, so no word spells a command and none joins the queue. -/
theorem test_no_word_spells_a_command :
    decodeTableWord 16 0x6C = none ∧ (State.reset.withFetchWord 16 0x6C).pending = [] := by decide

/-! ### The manual's worked examples: arithmetic -/

/-- Table 1.2. -/
theorem test_worked_conversions :
    Trim.convert ⟨120, 1290⟩ .pres 2650 = 797 ∧ Trim.convert ⟨120, 1290⟩ .pres 110 = 0 ∧
    Trim.convert ⟨2048, 3156⟩ .ay 2300 = 194 ∧ Trim.convert ⟨2048, 3156⟩ .ay 1800 = -191 := by decide +kernel

/-- Table 1.4. -/
theorem test_worked_filter :
    filtered 0 400 = 50 ∧ filtered 50 400 = 93 ∧ filtered 93 400 = 131 ∧ filtered 131 400 = 164 ∧
    filtered 164 (-100) = 131 := by decide +kernel

/-- Table 1.6, and the corrupted gain word. -/
theorem test_worked_checksum : sumWords exampleStore = 42435 ∧ sumWords (exampleStore.set 3 1291) = 42436 := by
  decide +kernel

/-- Table 2.6. -/
theorem test_worked_rear_axle :
    vehicle.rear.axle .default 400 (truncated (312 + 296) 2, .sensed) =
      { b := 304, l := 1137, r := 2084, f := 2889, pAxle := 291, source := .sensed, valid := true } := by decide +kernel

/-- Table 2.7. -/
theorem test_worked_front_axle :
    ((vehicle.front.axle .default 250 (15, .sensed)).gated true).pAxle = 0 ∧
    (vehicle.front.axle .default 250 (15, .sensed)).l = 163 ∧ (vehicle.front.axle .default 250 (48, .sensed)).pAxle = 96 ∧
    vehicle.front.axle .default 250 (95, .sensed) =
      { b := 95, l := 363, r := 430, f := 1530, pAxle := 112, source := .sensed, valid := true } := by decide +kernel

/-- Table 2.8. -/
theorem test_worked_knee :
    LoadGroup.default.target 30 1638 = 30 ∧ LoadGroup.default.target 31 2889 = 31 ∧
    LoadGroup.default.target 31 1638 = 30 ∧ LoadGroup.default.target 60 2889 = 51 ∧
    LoadGroup.default.target 60 1638 = 42 ∧ LoadGroup.default.target 60 4096 = 60 := by decide +kernel

/-- Section 4.3.1. -/
theorem test_worked_speeds :
    ({ rolling 0 with edges := 7, firstEdge := some 400112, lastEdge := some 409718 } : WheelEnd).toothSpeed 32000 = 1998 ∧
    ({ rolling 0 with edges := 2, firstEdge := some 100, lastEdge := some 103 } : WheelEnd).toothSpeed 32000 = 4000 ∧
    ({ rolling 90 with lastEdge := some 0 } : WheelEnd).coastSpeed 32000 45000 0 = 71 ∧
    ({ rolling 71 with lastEdge := some 0 } : WheelEnd).coastSpeed 32000 55000 0 = 58 ∧
    ({ rolling 58 with lastEdge := some 0 } : WheelEnd).coastSpeed 32000 200000 0 = 0 := by decide +kernel

/-- Section 4.4. -/
theorem test_worked_correction :
    ({ rolling 1998 with prevVc := some 1990 } : WheelEnd).corrected 4055 =
      { rolling 1998 with c := 4055, vc := 1978, aw := -120, prevVc := some 1978 } := by decide +kernel

/-- Table 4.3: the candidates, and the slips of window 2. -/
theorem test_worked_reference :
    candidateOf [1500, 1502, 1498, 1501] = 1501 ∧ candidateOf [1488, 1490, 1486, 1489] = 1489 ∧ candidateOf [7] = 7 ∧
    candidateOf [] = 0 ∧ (rolling 1488).slipOf 1493 150 = 3 ∧ (rolling 1490).slipOf 1493 150 = 2 ∧
    (rolling 1486).slipOf 1493 150 = 4 ∧ (rolling 1482).slipOf 1481 150 = 0 := by decide +kernel

/-- A channel locked at a pressure. -/
def locked (p : Int) : State := active.setSlip .left { passing with lock := p }

/-- Table 5.3. -/
theorem test_worked_rebuild :
    (locked 486).rebuildLimit .left 4 = 342 ∧ (locked 486).rebuildLimit .left 5 = 361 ∧
    (locked 486).rebuildLimit .left 6 = 380 ∧ (locked 486).rebuildLimit .left 7 = 399 ∧
    (locked 395).rebuildLimit .left 2 = 247 ∧ (locked 395).rebuildLimit .left 15 = 393 := by decide +kernel

/-- Table 6.3. -/
theorem test_worked_compositions :
    active.composed { regulating with pAxle := 291, pSlip := 234 } = 234 ∧
    active.composed { regulating with pAxle := 291, pSlip := 850 } = 291 ∧
    active.composed { regulating with pRoll := 190, pSlip := 850 } = 190 ∧
    (active.setEntry .pres (reading 260)).composed { regulating with pAxle := 291, pSlip := 850 } = 260 ∧
    (active.setEntry .pres .reset).composed { regulating with pAxle := 291, pSlip := 850 } = 291 := by decide +kernel

/-- Table 6.4 and the text below it. -/
theorem test_worked_pulses :
    ValveGroup.default.width (-28) = 14 ∧ ValveGroup.default.width 29 = 17 ∧ ValveGroup.default.width (-5) = 0 ∧
    ValveGroup.default.width 190 = 90 ∧ ValveGroup.default.width 13 = 8 ∧ ValveGroup.default.width 9 = 5 ∧
    ValveGroup.default.width 8 = 0 := by decide +kernel

/-- Table 7.2 and the text below it, and the transfers of R120. -/
theorem test_worked_threshold :
    RollGroup.default.threshold 2084 10 false = 319 ∧ RollGroup.default.threshold 2084 10 true = 287 ∧
    RollGroup.default.threshold 0 0 false = 420 ∧ RollGroup.default.threshold 4096 0 false = 290 ∧
    truncated (319 * 75) 100 = 239 ∧ truncated (319 * 60) 100 = 191 ∧ transferOf 100 520 = -677 ∧
    transferOf 300 310 = -16 := by decide +kernel

/-- The telegram of Section 8.2.1. -/
def telegram : List Byte := [0x7E, 0x1A, 0x2B, 0x3C, 0x4D, 137, 100, 0x02, 66]

/-- Section 8.2.1 and R140. -/
theorem test_worked_telegram :
    checkOf telegram = 66 ∧ identityOf telegram = 0x1A2B3C4D ∧ compensated 822 50 = 736 ∧ compensated 820 50 = 734 ∧
    compensated 0 20 = 0 ∧ compensated 0 (-50) = 31 := by decide +kernel

/-- A tyre of A3R with a pressure at 20 °C. -/
def twinTyre (id : Nat) (position : Position) (p20 : Int) (state : TyreState) : Slot :=
  { Slot.empty with
    occupied := true, id := id, wheel := .a3r, position := position, pNom := 800, p20 := some p20, state := state }

/-- Slots 8 and 9 of Section 8.7, slot 9 after time 60,000. -/
def leakingTwin : State :=
  (active.setSlot 8 (twinTyre 0x1A2B3C50 .inner 734 .normal)).setSlot 9
    { twinTyre 0x1A2B3C4D .outer 715 .leaking with leakRef := some (715, 60), leakRate := some 22, leakCount := 3 }

/-- Section 8.7: the leak rates, and the exports after time 60,000. -/
theorem test_worked_leak :
    leakRateOf 736 726 30000 = 20 ∧ leakRateOf 726 715 30000 = 22 ∧
    leakingTwin.recomputeExports.tyu.exports.a3r = { deficit := 82, factor := 4070, flat := false } ∧
    leakingTwin.recomputeExports.tyu.penalty = 10 := by decide +kernel

/-- R167: a zero VEHICLE table is refused at field 6; a zero AIR table is taken with four fields clamped. -/
theorem test_zero_tables :
    (State.reset.vehicleVerdict).1 = .refused 6 ∧ (validate AirGroup.checks AirGroup.refusals (List.replicate 8 0)).1 =
      .acceptedClamped 4 := by decide +kernel

/-! ### Resets and the calibration load -/

/-- The part right after reset with one gain word corrupted (Section 1.8.1). -/
def corrupted : State := { State.reset with store := exampleStore.set 3 1291 }

theorem witness_StepRunsFrontCommand : State.reset.pending = [] := rfl

theorem witness_NresetAssertedSilencesThePort :
    isPortCommand (.healthRead 5) = true ∧ (ran (.nresetAsserted 5) active).pins.nreset = true := by decide +kernel

theorem witness_GoodLoadStartsThePart :
    dueAt State.reset.load.due (State.reset.uptime + 30000) ∧ sumWords State.reset.store = 0xA5C3 :=
  ⟨dueNow (by decide), by decide +kernel⟩

theorem witness_BadLoadEntersSafe :
    dueAt corrupted.load.due (corrupted.uptime + 30000) ∧ sumWords corrupted.store ≠ 0xA5C3 :=
  ⟨dueNow (by decide), by decide +kernel⟩

/-- R167, R165: the commands' power-on reset is State.reset. -/
theorem test_power_on_reset : ran (.powerOnReset 0) active = { State.reset with mdu := Mdu.reset } := by decide +kernel

/-- Table 10.7, times 0 to 30. -/
theorem test_good_load :
    let t := ran (.loadCompletion 30000) State.reset
    t.xpt.device = .unconfigured ∧ t.sfe.trims.pres = ⟨120, 1290⟩ ∧ t.ldu.due = some 40000 ∧ t.rou.due = some 50000 ∧
    t.jrw.w = 1 ∧ Memory.half t.mem 0x1402 = 0x0001 := by decide +kernel

/-- The part in START with the inlet of FRONT SHORT, both valves of LEFT at OPEN_LOAD after 65,534 faults, and a TYRE group
of one entry requested. -/
def standing : State :=
  { (State.reset.store8 0x0500 ([70, 85, 10, 480, 328, 10, 30, 60, 1, 0x1A2B3C4D, 5, 2, 800].flatMap bytes32)).setPending .tyre
    with mdu := { Mdu.reset with channels :=
      { front := { ChannelRecord.reset with inlet := .short }
        left := { ChannelRecord.reset with inlet := .openLoad, outlet := .openLoad, faultCount := 65534 }
        right := ChannelRecord.reset } } }

/-- The hypotheses and premises of GoodLoadStartsThePart with causes to add and a TYRE request. -/
theorem witness_standing :
    dueAt standing.load.due (standing.uptime + 30000) ∧ sumWords standing.store = 0xA5C3 ∧ standing.modeLaw ∧
    (standing.chan .front).causes.inletShort = false ∧ (standing.chan .left).causes.outletOpen = false ∧
    standing.isPending .tyre = true ∧ standing.tyu.isOpen = false := by
  refine ⟨dueNow (by decide), by decide +kernel, ⟨rfl, ?_, ?_, ?_, ?_⟩, rfl, rfl, rfl, rfl⟩
  · intro c; cases c <;> decide
  · intro c k; cases c <;> cases k <;> decide
  · exact ⟨fun _ c => by cases c <;> rfl, fun _ => rfl⟩
  · intro c; cases c <;> decide

/-- R105, R163: the causes of standing indications, and the TYRE take, at a good load. -/
theorem test_good_load_takes :
    let t := ran (.loadCompletion 30000) standing
    (t.chan .front).causes = { ChannelRecord.reset.causes with inletShort := true } ∧ (t.chan .front).faultCount = 1 ∧
    (t.chan .left).causes = { ChannelRecord.reset.causes with inletOpen := true, outletOpen := true } ∧
    (t.chan .left).faultCount = 65535 ∧ t.chan .right = standing.chan .right ∧ t.health.valveFault = true ∧
    t.atc.pending.fault = true ∧ t.isPending .tyre = false ∧ (t.slot 0).id = 0x1A2B3C4D ∧
    t.xpt.reports.tyre = { result := .accepted, detail := 0, count := 1 } ∧ t.jrw.w = 5 := by decide +kernel

/-- R166. -/
theorem test_bad_load :
    let t := ran (.loadCompletion 30000) corrupted
    t.xpt.device = .safe ∧ t.ldu.due = none ∧ t.atc.pending.fault = true ∧ t.atc.nattn = false ∧
    Memory.half t.mem 0x1402 = 0x0003 ∧ ran (.lduPeriodExpiry 10000) t = t.elapse 10000 := by decide +kernel

/-! ### Sensors -/

/-- The active part with the entry of an input in a state, its timer due now. -/
def sensing (i : Input) (v : Validity) : State :=
  active.setEntry i { reading 262 with state := v, timer := some 1000000, recovery := some 300 }

theorem witness_StaleTimerDeclaresFault :
    (((sensing .pdLeft .stale).entry .pdLeft).state = .stale ∧ dueAt ((sensing .pdLeft .stale).entry .pdLeft).timer 1000000) ∧
    (((sensing .ay .invalid).entry .ay).state = .invalid ∧ dueAt ((sensing .ay .invalid).entry .ay).timer 1000000) ∧
    (sensing .pdLeft .stale).uptime + 0 = 1000000 :=
  ⟨⟨rfl, dueNow (by decide)⟩, ⟨rfl, dueNow (by decide)⟩, rfl⟩

theorem witness_RecoveryTimerClearsFault :
    ((sensing .pres .fault).entry .pres).state = .fault ∧ ((sensing .pres .fault).entry .pres).recovery = some 300 ∧
    dueAt ((sensing .pres .fault).entry .pres).timer ((sensing .pres .fault).uptime + 0) :=
  ⟨rfl, rfl, dueNow (by decide)⟩

/-- The clauses of a sample at the ends of the window, in VALID. -/
theorem test_sample_window :
    ((ran (.sampleCompletion 0 .pres 99) active).entry .pres).state = .stale ∧
    (ran (.sampleCompletion 0 .pres 100) active).entry .pres = { reading 0 with counts := 100 } ∧
    (ran (.sampleCompletion 0 .pres 3995) active).entry .pres = { reading 1200 with counts := 3995 } ∧
    ((ran (.sampleCompletion 0 .pres 3996) active).entry .pres).timer = some 1500000 ∧
    ((ran (.sampleCompletion 0 .ay 3996) active).entry .ay).timer = some 1100000 := by decide +kernel

/-- The clauses of a sample in FAULT, INVALID, and in START. -/
theorem test_sample_states :
    (let e := (ran (.sampleCompletion 0 .pres 100) (sensing .pres .fault)).entry .pres
     e.state = .fault ∧ e.value = 262 ∧ e.recovery = some 0 ∧ e.timer = some 1000000) ∧
    (let e := (ran (.sampleCompletion 0 .pres 99) (sensing .pres .fault)).entry .pres
     e.state = .fault ∧ e.recovery = none ∧ e.timer = none) ∧
    ((ran (.sampleCompletion 0 .pres 3996) (active.setEntry .pres .reset)).entry .pres).timer = some 1500000 ∧
    ran (.sampleCompletion 7 .pres 2000) State.reset = State.reset.elapse 7 := by decide +kernel

/-- R7, R10: a Pd fault puts the rear unit into BACKUP, and FAULT asserts nATTN. -/
theorem test_stale_timer :
    let t := ran (.staleTimerExpiry 0 .pdLeft) (sensing .pdLeft .stale)
    (t.entry .pdLeft).state = .fault ∧ t.health.sensorFault = true ∧ t.atc.nattn = true ∧ (t.chan .left).mode = .backup ∧
    (t.chan .right).mode = .backup ∧ (t.chan .front).mode = .regulate ∧ (t.slip .left).state = .off := by decide +kernel

theorem test_recovery_timer :
    let t := ran (.recoveryTimerExpiry 0 .ay) (sensing .ay .fault)
    (t.entry .ay).state = .valid ∧ t.value .ay = 300 ∧ t.sfe.seed = true ∧ t.atc.pending.fault = false := by decide +kernel

/-- R11: the clauses of Af: seeding, filtering, STALE, INVALID, FAULT. -/
theorem witness_LateralAccelerationFilter :
    active.isRunning = true ∧
    (ran (.sampleCompletion 0 .ay 2300) { active with sfe := { active.sfe with seed := true } }).rou.af = 194 ∧
    (ran (.sampleCompletion 0 .ay 2300) (active.setAf 34)).rou.af = 54 ∧
    (ran (.sampleCompletion 0 .ay 99) (active.setAf 34)).rou.af = 34 ∧
    (ran (.sampleCompletion 0 .ay 99) ((active.setEntry .ay .reset).setAf 34)).rou.af = 34 ∧
    (ran (.sampleCompletion 0 .ay 2300) ((sensing .ay .fault).setAf 34)).rou.af = 0 := by decide +kernel

/-! ### Periods: the hypotheses that every statement about one shares -/

theorem witness_StatusSections :
    active.isRunning = true ∧ dueAt active.sfe.sectionDue (active.uptime + 0) := ⟨rfl, dueNow (by decide)⟩

/-- The premises of every statement about an LDU period (DemandSlotIsRead, FreshnessAndSource,
MismatchAndEffectiveDemand, AxleRecords, LduPeriodFrame). -/
theorem witness_lduPeriod : active.isRunning = true ∧ dueAt active.ldu.due (active.uptime + 0) := ⟨rfl, dueNow (by decide)⟩

/-- The premises of every statement about a window. -/
theorem witness_window : active.isRunning = true ∧ dueAt active.wsu.due (active.uptime + 0) := ⟨rfl, dueNow (by decide)⟩

/-- The premises of ValvePeriod. -/
theorem witness_ValvePeriod :
    active.isRunning = true ∧ dueAt active.mdu.due (active.uptime + 0) ∧ (active.chan .left).mode = .regulate ∧
    active.modeLaw := ⟨rfl, dueNow (by decide), rfl, active_modeLaw⟩

/-- The premises of EvaluationThreshold and InterventionRequests. -/
theorem witness_evaluation :
    active.isRunning = true ∧ dueAt active.rou.due (active.uptime + 0) ∧ active.xpt.device = .active :=
  ⟨rfl, dueNow (by decide), rfl⟩

/-- The premises of SilenceScan. -/
theorem witness_SilenceScan : active.isRunning = true ∧ dueAt active.tyu.due (active.uptime + 0) := ⟨rfl, dueNow (by decide)⟩

/-- The section timer writes BL's entry at its place (R161). -/
theorem test_sensor_section :
    let t := ran (.sfeSectionTimerExpiry 0) active
    Memory.word t.mem 0x0C80 = 1 ∧ Memory.half t.mem 0x0C94 = 1 ∧ Memory.half t.mem 0x0C96 = 312 ∧
    t.sfe.sectionDue = some 1010000 := by decide +kernel

/-- The packing and rewrite clauses of StatusSections: a word item behind a half item, values past their item's width, and
the lift section rewritten at a head stamp of 65,535. -/
theorem test_section_rewrite :
    packItems 4 [.half 0x10203, .word 0x1FFFFFFFE, .half 5] =
      [3, 2, 0, 0, 0xFE, 0xFF, 0xFF, 0xFF, 5, 0] ∧
    (let s := active.store8 0x0DFC [0xFF, 0xFF]
     let t := s.rewrite .lift [.half 7, .word 9]
     s.headStamp .lift = 65535 ∧ t.mem = slotMemory ++ [(0x0DC4, 7), (0x0DC8, 9)] ∧
     (t.rewrite .lift [.half 7]).mem = slotMemory ++ [(0x0DC0, 1), (0x0DC4, 7), (0x0DFC, 1)]) := by decide +kernel

/-- The clauses of NotDueDoesNothing: in START nothing is due. -/
theorem test_not_due :
    ran (.lduPeriodExpiry 3) State.reset = State.reset.elapse 3 ∧ ran (.pulseEnd 3 .left) State.reset = State.reset.elapse 3 ∧
    ran (.loadCompletion 29999) State.reset = State.reset.elapse 29999 ∧
    ran (.sfeSectionTimerExpiry 3) { active with xpt := { active.xpt with device := .safe } } =
      { active with xpt := { active.xpt with device := .safe } }.elapse 3 := by decide +kernel

/-- The expiries of NotDueDoesNothing that are sent in the other timer's state, though the time has come. -/
theorem test_other_state :
    ran (.staleTimerExpiry 3 .pres) (sensing .pres .fault) = (sensing .pres .fault).elapse 3 ∧
    ran (.staleTimerExpiry 3 .pres) (sensing .pres .valid) = (sensing .pres .valid).elapse 3 ∧
    ran (.recoveryTimerExpiry 3 .pres) (sensing .pres .stale) = (sensing .pres .stale).elapse 3 ∧
    ran (.recoveryTimerExpiry 3 .pres) (sensing .pres .invalid) = (sensing .pres .invalid).elapse 3 ∧
    (let s := active.setLfc { active.lfc with moveTimer := some 0 }
     ran (.moveTimerExpiry 3) s = s.elapse 3) ∧
    (let s := active.setSlip .left { passing with holdTimer := some 0, stepTimer := some 0 }
     ran (.holdTimerExpiry 3 .left) s = s.elapse 3 ∧ ran (.stepTimerExpiry 3 .left) s = s.elapse 3) := by decide +kernel

/-! ### The load unit -/

/-- The active part with a demand slot of link flag, lift code, De and stamp. -/
def slotted (link lift de stamp : Nat) : State :=
  active.store8 0x0800 ([BitVec.ofNat 8 link, BitVec.ofNat 8 lift] ++ bytes16 de ++ [BitVec.ofNat 8 stamp])

/-- What the next LDU period makes of a state. -/
def ldu (s : State) : State := ran (.lduPeriodExpiry 0) s

/-- Table 2.6 as a step. -/
theorem test_ldu_period :
    (ldu active).ldu.rear = { b := 304, l := 1137, r := 2084, f := 2889, pAxle := 291, source := .sensed, valid := true } ∧
    (ldu active).ldu.demand.d = 400 ∧ (ldu active).ldu.demand.lastStamp = some 17 ∧
    Memory.half (ldu active).mem 0x0D00 = 1 := by decide +kernel

/-- The clauses of DemandSlotIsRead: De at 1000 and 1001, codes 2 and 3, link 1 and 2, the first, the same and another
stamp. -/
theorem test_demand_slot :
    (ldu (slotted 1 2 1000 17)).ldu.demand.de = 1000 ∧ (ldu (slotted 1 2 1001 17)).ldu.demand.de = 1000 ∧
    (ldu (slotted 1 2 0 17)).ldu.demand.liftRead = .raise ∧ (ldu (slotted 1 3 0 17)).ldu.demand.liftRead = .auto ∧
    (ldu (slotted 2 1 0 17)).ldu.demand.link = .down ∧ (ldu (slotted 1 1 0 16)).ldu.demand.age = 10 ∧
    (ldu (slotted 1 1 0 17)).ldu.demand.age = 0 ∧
    (ldu (active.setDemand .reset)).ldu.demand.changeSeen = false := by decide +kernel

/-- A slot whose stamp is the one last seen, with the demand at an age. -/
def ageing (age : Nat) : State := (slotted 1 1 400 16).setDemand { active.ldu.demand with age := age }

/-- The clauses of FreshnessAndSource: ages 60 and 70 against the default timeout, link down, no change seen, Pc
invalid, and SOURCE_NONE entering and leaving. -/
theorem test_freshness :
    (ldu (ageing 50)).ldu.demand.source = .electric ∧ (ldu (ageing 51)).ldu.demand.freshness = .stale .timeout ∧
    (ldu (ageing 51)).atc.pending.demand = true ∧ (ldu (slotted 0 1 400 17)).ldu.demand.freshness = .stale .linkDown ∧
    (ldu (slotted 0 1 400 17)).ldu.demand.liftHanded = .lower ∧ (ldu (ageing 51)).ldu.demand.liftHanded = .auto ∧
    (ldu (active.setDemand .reset)).ldu.demand.freshness = .stale .noChange ∧
    (let t := ldu ((ageing 51).setEntry .pc .reset)
     t.ldu.demand.source = .none ∧ (t.chan .right).mode = .backup ∧ (t.chan .right).causes.sourceNone = true ∧
     ((ldu { t with ldu := { t.ldu with due := some 0 }, mem := slotMemory }).chan .right).causes.sourceNone = false) := by
  decide +kernel

/-- The active part in a mismatch run that began at a time in milliseconds, Pc 121 kPa off. -/
def mismatched (start : Time) : State :=
  (active.setEntry .pc (reading 521)).setDemand { active.ldu.demand with mismatchStart := some start }

/-- The clauses of MismatchAndEffectiveDemand: a limit of 120, a run of 499 and of 500 ms, and D about the release
threshold of 10. -/
theorem test_mismatch :
    (ldu (active.setEntry .pc (reading 520))).ldu.demand.mismatchStart = none ∧
    (ldu (active.setEntry .pc (reading 521))).ldu.demand.mismatchStart = some 1000 ∧
    (ldu (mismatched 501)).ldu.demand.mismatch = false ∧ (ldu (mismatched 500)).ldu.demand.mismatch = true ∧
    (ldu (mismatched 500)).ldu.demand.d = 521 ∧ (ldu (mismatched 500)).health.demandMismatch = true ∧
    (ldu (slotted 1 0 9 17)).ldu.demand.d = 0 ∧ (ldu (slotted 1 0 10 17)).ldu.demand.d = 10 := by decide +kernel

/-- The clauses of AxleRecords: one bellows, none, and the raised axle. -/
theorem test_axle_sources :
    (ldu (active.setEntry .bl .reset)).ldu.rear.b = 296 ∧ (ldu (active.setEntry .br .reset)).ldu.rear.b = 312 ∧
    (ldu ((active.setEntry .bl .reset).setEntry .br .reset)).ldu.rear.pAxle = 400 ∧
    (ldu (active.setEntry .bf .reset)).ldu.front.source = .assumedLaden ∧
    (ldu ((slotted 1 0 250 17).setLfc { active.lfc with state := .raised, valve := true })).ldu.front.pAxle = 0 := by
  decide +kernel

/-- A VEHICLE table: LIFT, UNUSED bellows when the second word is 0, and the settings of Section 2.8. -/
def vehicleTable (bellows : Nat) : List Nat :=
  [1, bellows, 70, 300, 640, 300, 900, 1229, 80, 450, 785, 450, 1800, 1638, 3200, 100, 1, 1, 1, 1, 1, 1]

/-- The part in UNCONFIGURED with a VEHICLE table written and its take pending, at a De. -/
def configuring (bellows de : Nat) : State :=
  { (slotted 1 0 de 17).store8 0 ((vehicleTable bellows).flatMap bytes32) with
    xpt := { Xpt.reset with device := .unconfigured, pending := { Xpt.reset.pending with vehicle := true } } }

theorem witness_LduTakes :
    (configuring 1 0).isRunning = true ∧ dueAt (configuring 1 0).ldu.due ((configuring 1 0).uptime + 0) ∧
    (configuring 1 0).isPending .vehicle = true := ⟨rfl, dueNow (by decide), rfl⟩

/-- The VEHICLE clauses of LduTakes: accepted, not at a safe point, and refused (LIFT with UNUSED reports index 1). -/
theorem test_vehicle_take :
    (let t := ldu (configuring 1 0)
     t.ldu.vehicle = some vehicle ∧ t.xpt.device = .active ∧ t.isPending .vehicle = false ∧ t.atc.pending.take = true ∧
     t.xpt.reports.vehicle = { result := .accepted, detail := 0, count := 1 }) ∧
    (let t := ldu (configuring 1 10)
     t.isPending .vehicle = true ∧ t.xpt.device = .unconfigured) ∧
    (let t := ldu (configuring 0 0)
     t.xpt.device = .unconfigured ∧ t.xpt.reports.vehicle = { result := .refused, detail := 1, count := 1 }) := by
  decide +kernel

/-- A LOAD table with a demand timeout and a raised-confirm pressure. -/
def loadTable (timeout confirm : Nat) : List Nat :=
  [timeout, 120, 10, 30, 850, 1, 1024, 1638, 10000, 300, 60, confirm, 6000, 2000]

/-- The active part with a LOAD table written and its take pending, at a De. -/
def loading (timeout confirm de : Nat) : State :=
  ran (.takeLoad 0) ((slotted 1 0 de 17).store8 0x0100 ((loadTable timeout confirm).flatMap bytes32))

/-- The LOAD clauses of LduTakes, with D 0 and above 0, and a check that fails; and a FIXED axle (R53). -/
theorem test_load_take :
    (ldu (loading 61 20 0)).ldu.load.demandTimeout = 61 ∧ (ldu (loading 61 20 0)).isPending .load = false ∧
    (ldu (loading 61 20 10)).isPending .load = true ∧ (ldu (loading 61 20 10)).ldu.load = .default ∧
    (ldu (loading 61 60 0)).ldu.load = .default ∧
    (ldu (loading 61 60 0)).xpt.reports.load = { result := .refused, detail := 11, count := 1 } ∧
    (let fixed := (configuring 1 0).store8 0 (bytes32 0)
     let t := ldu (fixed.setLfc { active.lfc with state := .lowering, moveTimer := some 6500000 })
     t.lfc.state = .lowered ∧ t.lfc.moveTimer = none ∧ t.xpt.device = .active) := by decide +kernel

/-- A ROLL table of words in range. -/
def rollTable : List Nat :=
  [420, 290, 25, 1229, 3277, 800, 650, 1000, 300, 60, 50, 300, 150, 20, 500, 128, 500, 500]

/-- The clauses of ValidationVerdict at the ends of a range: 99, 100, 1500 and 1501 for A_empty. -/
theorem witness_ValidationVerdict :
    rollTable.length = RollGroup.checks.length ∧ RollGroup.checks[0]? = some (.clamped 100 1500) ∧ 100 ≤ 1500 ∧
    (validate RollGroup.checks RollGroup.refusals rollTable).1 = .accepted ∧
    (validate RollGroup.checks RollGroup.refusals (rollTable.set 0 1500)).1 = .accepted ∧
    (validate RollGroup.checks RollGroup.refusals (rollTable.set 0 1501)).1 = .acceptedClamped 1 ∧
    (validate RollGroup.checks RollGroup.refusals (rollTable.set 0 99)).1 = .refused 1 := by decide +kernel

/-! ### The lift axle -/

/-- The active part with the lift axle in a state, its valve as the state says, and BF at a pressure. -/
def lifted (state : LiftState) (bf : Int) (s : State) : State :=
  (s.setLfc { s.lfc with
    state := state, valve := state.isUp, moveStart := some 500, moveTimer := some 6500000 }).setEntry .bf (reading bf)

theorem witness_LiftUpDecision :
    let s := lifted .raising 21 (slotted 1 0 0 17)
    s.isRunning = true ∧ s.lfc.state.isUp = true ∧ (ldu s).ldu.vehicle = some vehicle ∧ vehicle.kind = .lift ∧
    s.isDue s.ldu.due = true := by decide +kernel

/-- The clauses of LiftUpDecision: each lowering cause, the confirmation at 20, and neither at 21. -/
theorem test_lift_up :
    (ldu (lifted .raising 21 active)).lfc.moveCause = .ratio ∧
    (let light := (slotted 1 2 300 17).setEntry .bl (reading 80)
     (ldu (lifted .raising 21 (light.setEntry .br (reading 80)))).lfc.moveCause = .demand) ∧
    (let light := ((slotted 1 1 0 17).setEntry .bl (reading 80)).setEntry .br (reading 80)
     (ldu (lifted .raised 15 light)).lfc.moveCause = .hostLower) ∧
    (let light := ((slotted 1 0 0 17).setEntry .bl (reading 80)).setEntry .br (reading 80)
     (ldu ((lifted .raised 15 light).setEntry .bf .reset)).lfc.moveCause = .bfInvalid ∧
     (ldu ((lifted .raising 21 light).setEntry .pres (reading 449))).lfc.moveCause = .reserve ∧
     (ldu (lifted .raising 21 light)).lfc.state = .raising ∧ (ldu (lifted .raised 21 light)).lfc.state = .raised ∧
     (ldu (lifted .raising 20 light)).lfc.state = .raised ∧
     (ldu (lifted .raising 20 light)).lfc.lastResult = some (.raise, .completed)) := by decide +kernel

/-- RAISED in UNCONFIGURED, where no VEHICLE group is in force, under a lift request, BF at a pressure. -/
def unconfigured (request : Nat) (bf : Int) : State :=
  let s := lifted .raised bf (slotted 1 request 0 17)
  { s with ldu := { s.ldu with vehicle := none }, xpt := { s.xpt with device := .unconfigured } }

/-- The premise of LiftUpDecision without a VEHICLE group, and its causes there: none, the host's and an invalid BF. -/
theorem witness_LiftUpDecision_unconfigured :
    (unconfigured 0 15).isRunning = true ∧ (unconfigured 0 15).lfc.state.isUp = true ∧
    (unconfigured 0 15).isDue (unconfigured 0 15).ldu.due = true ∧ (ldu (unconfigured 0 15)).ldu.vehicle = none ∧
    (ldu (unconfigured 0 15)).lfc.state = .raised ∧ (ldu (unconfigured 1 15)).lfc.moveCause = .hostLower ∧
    (ldu ((unconfigured 0 15).setEntry .bf .reset)).lfc.moveCause = .bfInvalid := by decide +kernel

/-- The lowered axle under a light load whose low-ratio run began 10 s ago. -/
def light (pres : Int) : State :=
  { (((((slotted 1 0 0 17).setEntry .bl (reading 80)).setEntry .br (reading 80)).setEntry .pres (reading pres)).setLfc
      { active.lfc with lowRatioStart := some (1000 - 10000) }) with rou := { active.rou with stage := .quiet } }

theorem witness_LiftDownDecision :
    (light 450).isRunning = true ∧ (light 450).lfc.state = .lowered ∧ (ldu (light 450)).ldu.vehicle = some vehicle ∧
    (light 450).isDue (light 450).ldu.due = true := by decide +kernel

/-- The LOWERED clauses of LiftDownDecision: granted at the reserve level, refused below it, not wanted with D above 0. -/
theorem test_lift_raise :
    (let t := ldu (light 450)
     t.lfc.state = .raising ∧ t.lfc.valve = true ∧ t.aac.lift.current = 5 ∧ t.wsu.wheels.a1l.included = false ∧
     t.ldu.front.pAxle = 0 ∧ t.lfc.moveCause = .auto ∧ t.lfc.moveTimer = some 7000000) ∧
    (let t := ldu (light 449)
     t.lfc.state = .lowered ∧ t.lfc.refusalCount = 1 ∧ t.aac.lift.current = 6 ∧ t.aac.lift.refusedReserve = 1) ∧
    (ldu { light 450 with mem := slotMemory }).lfc.refusalCount = 0 := by decide +kernel

/-- The lift axle in UNKNOWN under a light load, its dwell begun at a time in milliseconds, BF at a pressure. -/
def searching (start : Time) (bf : Int) : State :=
  ((light 780).setLfc { active.lfc with state := .unknown, dwellStart := some start }).setEntry .bf (reading bf)

/-- The UNKNOWN and LOWERING clauses of LiftDownDecision at 20, 21, 59 and 60 kPa and a dwell of 1999 and 2000 ms, with
an intervention and with BF invalid. -/
theorem test_lift_unknown_and_lowering :
    (ldu (searching 0 60)).lfc.state = .lowered ∧ (ldu (searching 0 59)).lfc.dwellStart = none ∧
    (ldu (searching 0 21)).lfc.dwellStart = none ∧
    (ldu (searching (1000 - 1999) 20)).lfc.state = .unknown ∧
    (ldu (searching (1000 - 1999) 20)).lfc.dwellStart = some (1000 - 1999) ∧
    (let t := ldu (searching (1000 - 2000) 20)
     t.lfc.state = .raised ∧ t.lfc.valve = true ∧ t.lfc.dwellStart = none ∧ t.wsu.wheels.a1r.included = false) ∧
    (let s := searching (1000 - 2000) 20
     (ldu (s.setRou { s.rou with stage := .holdoff })).lfc.state = .unknown ∧
     (ldu (s.setEntry .bf .reset)).lfc.dwellStart = none) ∧
    (ldu (lifted .lowering 60 active)).lfc.lastResult = some (.lower, .completed) ∧
    (ldu (lifted .lowering 59 active)).lfc.moveTimer = some 6500000 := by decide +kernel

/-- R44 at the raise ratio of 1024 (a load that lies below and above it), and R161: the elapsed time of a move is a
16-bit item. -/
theorem test_low_ratio_and_lift_section :
    (ldu ((light 780).setLfc active.lfc)).lfc.lowRatioStart = some 1000 ∧
    (ldu ((slotted 1 0 0 17).setLfc { active.lfc with lowRatioStart := some 7 })).lfc.lowRatioStart = none ∧
    (let m := (ldu (lifted .lowering 59 active)).mem
     Memory.word m 0x0DD0 = 0 ∧ Memory.half m 0x0DD4 = 500 ∧ Memory.half m 0x0DD6 = 0 ∧ Memory.half m 0x0DD8 = 0) := by
  decide +kernel

/-- The lift axle in a move whose timer is due. -/
def moving (state : LiftState) : State := { lifted state 30 active with uptime := 6500000 }

theorem witness_MoveTimerExpiry :
    ((moving .raising).lfc.state = .raising ∧ dueAt (moving .raising).lfc.moveTimer ((moving .raising).uptime + 0)) ∧
    ((moving .lowering).lfc.state = .lowering ∧ dueAt (moving .lowering).lfc.moveTimer ((moving .lowering).uptime + 0)) :=
  ⟨⟨rfl, dueNow (by decide)⟩, rfl, dueNow (by decide)⟩

theorem test_move_timer :
    let t := ran (.moveTimerExpiry 0) (moving .raising)
    t.lfc.state = .unknown ∧ t.lfc.valve = false ∧ t.lfc.timeoutCount = 1 ∧ t.atc.pending.fault = true ∧
    Memory.byte t.mem 0x1400 = 7 ∧ Memory.half t.mem 0x1402 = 0x0101 ∧ Memory.word t.mem 0x1408 = 6000 := by decide +kernel

/-! ### Wheels -/

/-- Circuits that are all closed. -/
def closed : PerWheel Circuit := ⟨.closed, .closed, .closed, .closed, .closed, .closed⟩

/-- What a window makes of a state. -/
def window (s : State) : State := ran (.windowExpiry 0 closed) s

theorem witness_EdgeArrival :
    active.isRunning = true ∧ (active.wheel .a2l).fitted = true ∧
    (ran (.edgeArrival 5 .a2l) active).wheel .a2l =
      { rolling 1000 with edges := 1, firstEdge := some 1000005, lastEdge := some 1000005 } ∧
    ran (.edgeArrival 5 .a2l) State.reset = State.reset.elapse 5 := by decide +kernel

/-- The wheel of Section 4.3.1 in a window that ends now. -/
def toothed : State :=
  active.setWheel .a2l { rolling 1990 with edges := 7, firstEdge := some 990112, lastEdge := some 999718 }

theorem witness_RawSpeed :
    toothed.isRunning = true ∧ dueAt toothed.wsu.due (toothed.uptime + 0) ∧ (toothed.wheel .a2l).fitted = true ∧
    (∀ v, toothed.ldu.vehicle = some v → v.fitted.get .a2l = true) ∧ (toothed.wheel .a2l).sensor = .ok ∧
    closed.get .a2l = .closed ∧ 2 ≤ (toothed.wheel .a2l).edges ∧ (toothed.wheel .a2l).firstEdge = some 990112 ∧
    (toothed.wheel .a2l).lastEdge = some 999718 :=
  ⟨rfl, dueNow (by decide), rfl, fun _ h => by cases h; rfl, rfl, rfl, by decide, rfl, rfl⟩

theorem test_window :
    ((window toothed).wheel .a2l).v = 1998 ∧ ((window toothed).wheel .a2l).aw = 80 ∧ (window toothed).wsu.vref = 992 ∧
    (window toothed).wsu.ramp = true ∧ (window toothed).wsu.due = some 1010000 := by decide +kernel

/-- A wheel end in order that has counted edges, under an exclusion set. -/
def excluded (excl : Exclusion) : WheelEnd := { rolling 1000 with excl := excl, included := false, edges := 3, lastEdge := some 9 }

/-- The active part whose VEHICLE group fits every wheel end but A3R, with a wheel end there. -/
def unfitting (r : WheelEnd) : State :=
  { active.setWheel .a3r r with ldu := { active.ldu with
      vehicle := some { vehicle with fitted := ⟨true, true, true, true, true, false⟩ } } }

/-- Table 4.2 in WindowFrame: each reason as its condition begins and as it ends, the record of A3R cleared, and A3R back
from the cleared values (R60). -/
theorem test_exclusions :
    (let flat := { active with tyu := { active.tyu with
       exports := active.tyu.exports.set .a2l { deficit := 500, factor := 3932, flat := true } } }
     ((window flat).wheel .a2l).excl = ⟨false, false, false, true⟩ ∧ ((window flat).wheel .a2l).included = false) ∧
    ((window (active.setWheel .a2l (excluded ⟨false, false, false, true⟩))).wheel .a2l).included = true ∧
    ((window (lifted .raised 15 active)).wheel .a1l).excl = ⟨false, false, true, false⟩ ∧
    ((window (lifted .lowering 15 (active.setWheel .a1l (excluded ⟨false, false, true, false⟩)))).wheel .a1l).included = true ∧
    (window (unfitting (excluded ⟨false, false, false, true⟩))).wheel .a3r =
      { WheelEnd.reset with fitted := false, excl := ⟨true, false, false, false⟩, included := false } ∧
    (let t := window (active.setWheel .a3r ((window (unfitting (rolling 1000))).wheel .a3r))
     (t.wheel .a3r).fitted = true ∧ (t.wheel .a3r).included = true ∧ (t.wheel .a3r).v = 0 ∧
     (t.wheel .a3r).prevVc = some 0) := by decide +kernel

/-- The premises of WindowFrame's clauses on a wheel end that leaves FITTED and on one that comes back. -/
theorem witness_refit :
    ((unfitting (rolling 1000)).wheel .a3r).fitted = true ∧
    (window (unfitting (rolling 1000))).wheelLaw ∧ ((window (unfitting (rolling 1000))).wheel .a3r).fitted = false ∧
    vehicle.fitted.get .a3r = true := by
  refine ⟨rfl, ?_, by decide +kernel, rfl⟩
  intro w; cases w <;> (refine ⟨?_, ?_, ?_, ?_⟩ <;> decide +kernel)

/-- A2L with one edge in the window, the last so many microseconds before its end, and a speed before it. -/
def coasting (since : Nat) (v : Int) : State :=
  active.setWheel .a2l { rolling v with edges := 1, lastEdge := some (1000000 - BitVec.ofNat 32 since) }

/-- The coast clauses of RawSpeed: no edge ever, 199,999 and 200,000 µs, a bound above and below the speed before. -/
theorem test_coast :
    ((window active).wheel .a2l).v = 0 ∧ ((window (coasting 199999 90)).wheel .a2l).v = 16 ∧
    ((window (coasting 200000 90)).wheel .a2l).v = 0 ∧ ((window (coasting 45000 90)).wheel .a2l).v = 71 ∧
    ((window (coasting 45000 70)).wheel .a2l).v = 70 ∧ ((window (coasting 45000 70)).wheel .a2l).edges = 0 := by
  decide +kernel

/-- The clauses of ReferenceSpeedAndSlip: two wheel ends INCLUDED, one, none. -/
theorem witness_ReferenceSpeedAndSlip :
    let only := fun (ws : List Wheel) (s : State) =>
      Wheel.all.foldl (fun t w => t.setWheel w { t.wheel w with included := ws.contains w }) s
    (only [.a2l, .a3r] active).computeReference.wsu.candidate = 1000 ∧
    (only [.a2l] (active.setWheel .a2l (rolling 991))).computeReference.wsu.vref = 992 ∧
    (only [.a2l] (active.setWheel .a2l (rolling 992))).computeReference.wsu.ramp = false ∧
    (only [] active).computeReference.wsu.candidate = 0 := by decide +kernel

theorem witness_WheelSensorFaults :
    active.isRunning = true ∧ dueAt active.wsu.due (active.uptime + 0) ∧ (active.wheel .a3l).fitted = true ∧
    (∀ v, active.ldu.vehicle = some v → v.fitted.get .a3l = true) ∧ (active.wheel .a3l).sensor = .ok ∧
    ({ closed with a3l := Circuit.opened } : PerWheel Circuit).get .a3l = .opened :=
  ⟨rfl, dueNow (by decide), rfl, fun _ h => by cases h; rfl, rfl, rfl⟩

theorem test_open_circuit :
    let t := ran (.windowExpiry 0 { closed with a3l := Circuit.opened }) active
    (t.wheel .a3l).sensor = .fault ∧ (t.wheel .a3l).included = false ∧ t.wsu.includedCount = 5 ∧
    t.atc.pending.fault = true := by decide +kernel

/-- A2L still since a time in milliseconds, the others at a speed that keeps vref. -/
def still (start : Time) (vref : Int) : State :=
  let other : WheelEnd := { rolling vref with lastEdge := some 999999 }
  { active with wsu := { active.wsu with
    wheels := ⟨other, other, { rolling 0 with zeroStart := some start }, other, other, other⟩, vref := vref } }

/-- A2L in FAULT, recovering since a time in milliseconds, with so many edges in the window. -/
def recovering (start : Time) (edges : Nat) : State :=
  toothed.setWheel .a2l { toothed.wheel .a2l with
    edges := edges, sensor := .fault, faultKind := some .zeroSpeed, recoveryStart := some start, v := 0, vc := 0 }

/-- The zero-speed and recovery clauses of WheelSensorFaults: vref 499 and 500, runs of 1999 and 2000 ms, of 999 and
1000 ms, one edge, and the runs' beginnings. -/
theorem test_zero_speed_and_recovery :
    ((window (still 1 499)).wheel .a2l).zeroStart = none ∧
    ((window (still (1000 - 1999) 500)).wheel .a2l).zeroStart = some (1000 - 1999) ∧
    (let t := window (still (1000 - 2000) 500)
     (t.wheel .a2l).faultKind = some .zeroSpeed ∧ (t.wheel .a2l).included = false ∧ t.atc.pending.fault = true) ∧
    (let s := still 0 500
     ((window (s.setWheel .a2l (rolling 0))).wheel .a2l).zeroStart = some 1000) ∧
    ((window (recovering 1 7)).wheel .a2l).sensor = .fault ∧ ((window (recovering 1 7)).wheel .a2l).recoveryStart = some 1 ∧
    ((window (recovering 0 7)).wheel .a2l).sensor = .ok ∧ ((window (recovering 0 7)).wheel .a2l).included = false ∧
    ((window (recovering 0 1)).wheel .a2l).recoveryStart = none := by decide +kernel

/-! ### Slip control -/

/-- The active part braking, with A2L at a tooth speed that gives it 2000 less a lag and vref 2000. -/
def braking (lag : Int) (prev : Int) : State :=
  let wheel := fun (v p : Int) => ({ rolling v with lastEdge := some 999999, prevVc := some p } : WheelEnd)
  let s := { active with wsu := { active.wsu with
    wheels := ⟨wheel 2000 2000, wheel 2000 2000, wheel (2000 - lag) prev, wheel 2000 2000, wheel 2000 2000, wheel 2000 2000⟩
    vref := 2000 } }
  { s with mdu := { active.mdu with periodEnd := some 10100 } }.setDemand { s.ldu.demand with d := 500 }

theorem witness_SlipChannelAtAWindow :
    (braking 360 1640).isRunning = true ∧ dueAt (braking 360 1640).wsu.due ((braking 360 1640).uptime + 0) ∧
    ((braking 360 1640).slip .left).state = .pass ∧ ((braking 360 1640).chan .left).mode = .regulate ∧
    ((window (braking 360 1640)).slip .left).wheel = some .a2l :=
  ⟨rfl, dueNow (by decide), rfl, rfl, by decide +kernel⟩

/-- The PASS clauses of SlipChannelAtAWindow: slip 180 and 179, slip 80 with a_w -60 and -50, and a test pulse in flight. -/
theorem test_dump :
    ((window (braking 360 1640)).slip .left).state = .dump ∧ ((window (braking 360 1640)).slip .left).lock = 262 ∧
    ((window (braking 359 1641)).slip .left).state = .pass ∧ ((window (braking 160 1846)).slip .left).state = .dump ∧
    ((window (braking 160 1845)).slip .left).state = .pass ∧
    (let t := window { braking 360 1640 with rou := { active.rou with testChannel := some .left } }
     (t.slip .left).state = .pass ∧ (t.slip .left).suppressed = true ∧ (t.slip .left).deferrals = 1) := by decide +kernel

/-- The braking part with LEFT in an episode of a state, A2L's lag and its corrected speed a window ago. -/
def inEpisode (state : SlipState) (lag prev : Int) : State :=
  (braking lag prev).setSlip .left { passing with
    state := state, lock := 486, pSlip := 200, index := 6, offset := 4, dumps := 2, minPd := some 270
    episodeStart := some 360
    holdTimer := if state = .hold then some 1040000 else none
    stepTimer := if state = .rebuild then some 1030000 else none }

/-- The other clauses of SlipChannelAtAWindow: DUMP at slip 79 and 80 and at a_w 20 and 10; HOLD at 180 and 179; REBUILD
with and without the dump condition; release by D 0; OFF for want of a wheel, and out of OFF. -/
theorem test_slip_states :
    ((window (inEpisode .dump 158 1842)).slip .left).state = .hold ∧
    ((window (inEpisode .dump 158 1842)).slip .left).pSlip = 262 ∧
    ((window (inEpisode .dump 158 1842)).slip .left).holdTimer = some 1040000 ∧
    ((window (inEpisode .dump 160 1839)).slip .left).state = .dump ∧
    ((window (inEpisode .dump 160 1838)).slip .left).state = .hold ∧
    (let r := (window (inEpisode .hold 360 1640)).slip .left
     r.state = .dump ∧ r.dumps = 3 ∧ r.lock = 262 ∧ r.holdTimer = none ∧ r.minPd = some 262) ∧
    ((window (inEpisode .hold 359 1641)).slip .left).holdTimer = some 1040000 ∧
    (let r := (window (inEpisode .rebuild 360 1640)).slip .left
     r.state = .dump ∧ r.offset = 2 ∧ r.stepTimer = none) ∧
    ((window (inEpisode .rebuild 359 1641)).slip .left).index = 6 ∧
    (let s := inEpisode .rebuild 359 1641
     let t := window (s.setDemand { s.ldu.demand with d := 0 })
     (t.slip .left).state = .pass ∧ (t.slip .left).episodes = 1 ∧ t.atc.pending.slip = true) ∧
    (let flat := ({ deficit := 0, factor := 4096, flat := true } : TyreExport)
     let s := inEpisode .hold 359 1641
     let t := window { s with tyu := { s.tyu with exports := { s.tyu.exports with a2l := flat, a3l := flat } } }
     (t.slip .left).state = .off ∧ (t.slip .left).wheel = none ∧ (t.slip .left).holdTimer = none) ∧
    ((window (inEpisode .off 0 2000)).slip .left).state = .pass := by decide +kernel

/-- A SLIP table with a start index. -/
def slipTable (start : Nat) : List Nat :=
  [150, 180, 80, 60, 20, 40, 30, start, 0, 1, 2, 140, 150, 160, 170, 180, 190, 200, 210, 218, 226, 234, 240, 246, 250,
    253, 255]

/-- A part with a SLIP table written and its take pending. -/
def slipping (start : Nat) (s : State) : State := ran (.takeSlip 0) (s.store8 0x0200 ((slipTable start).flatMap bytes32))

/-- The take clauses of WindowFrame: in PASS, during an episode, and refused (a slope table that falls). -/
theorem test_slip_take :
    (let t := window (slipping 10 active)
     t.isPending .slip = false ∧ t.scu.group.startIndex = 10 ∧ (t.slip .front).offset = 10 ∧ (t.slip .left).offset = 2) ∧
    (window (slipping 10 (inEpisode .hold 359 1641))).isPending .slip = true ∧
    (window ((slipping 10 active).store8 0x022C (bytes32 200))).xpt.reports.slip =
      { result := .refused, detail := 12, count := 1 } := by decide +kernel

/-- R103: the dump opens the outlet at once, or waits the dead band after an inlet that it closes. -/
theorem test_dump_valves :
    ((window (braking 360 1640)).chan .left).phase = .energised .outlet ∧
    (let open_ := (braking 360 1640).setChan .left { regulating with phase := .energised .inlet, pulseEnd := some 10050 }
     ((window open_).chan .left).phase = .closed ∧
     ((ran (.dumpOutletOpening 1000 .left) (window open_)).chan .left).phase = .energised .outlet ∧
     ran (.dumpOutletOpening 999 .left) (window open_) = (window open_).elapse 999) := by decide +kernel

/-- LEFT in HOLD or REBUILD at a lock pressure of 486, its timer due now, its wheel at a slip. -/
def episode (state : SlipState) (index : Nat) (slip : Int) : State :=
  (active.setWheel .a2l { rolling 1000 with slip := slip }).setSlip .left
    { passing with
      state := state, wheel := some .a2l, lock := 486, index := index, dumps := 2, minPd := some 247
      episodeStart := some 360
      holdTimer := if state = .hold then some 1000000 else none
      stepTimer := if state = .rebuild then some 1000000 else none }

theorem witness_HoldTimerExpiry :
    ((episode .hold 0 79).slip .left).state = .hold ∧
    dueAt ((episode .hold 0 79).slip .left).holdTimer ((episode .hold 0 79).uptime + 0) := ⟨rfl, dueNow (by decide)⟩

theorem witness_StepTimerExpiry :
    ((episode .rebuild 14 0).slip .left).state = .rebuild ∧
    dueAt ((episode .rebuild 14 0).slip .left).stepTimer ((episode .rebuild 14 0).uptime + 0) :=
  ⟨rfl, dueNow (by decide)⟩

/-- Table 5.3 at 70, and the hold level 80. -/
theorem test_hold_timer :
    (let r := (ran (.holdTimerExpiry 0 .left) (episode .hold 0 79)).slip .left
     r.state = .rebuild ∧ r.index = 4 ∧ r.pSlip = 342 ∧ r.stepTimer = some 1030000) ∧
    (let r := (ran (.holdTimerExpiry 0 .left) (episode .hold 0 80)).slip .left
     r.state = .hold ∧ r.holdTimer = some 1040000) := by decide +kernel

/-- Table 5.3 at 620 and 650: the last step, and autostop with its record. -/
theorem test_step_timer :
    (let r := (ran (.stepTimerExpiry 0 .left) (episode .rebuild 14 0)).slip .left
     r.state = .rebuild ∧ r.index = 15 ∧ r.stepTimer = some 1030000) ∧
    (let t := ran (.stepTimerExpiry 0 .left) (episode .rebuild 15 0)
     (t.slip .left).state = .pass ∧ t.atc.pending.slip = true ∧ Memory.half t.mem 0x1402 = 512 ∧
     Memory.word t.mem 0x1408 = 640 ∧ Memory.word t.mem 0x140C = 486 * 65536 + 247) := by decide +kernel

/-! ### The modulator drive -/

/-- The active part with the axle targets of Table 6.4's first rows. -/
def targeted (p : Int) : State :=
  { active with ldu := { active.ldu with rear := { Axle.reset with pAxle := p, valid := true } } }

/-- Table 6.4, and the clauses of ValvePeriod at the dead zone of 8 and 9 and at the cap. -/
theorem test_valve_period :
    (let t := ran (.valvePeriodExpiry 0) (targeted 291)
     (t.chan .right).w = 17 ∧ (t.chan .right).phase = .energised .inlet ∧ (t.chan .right).pulseEnd = some 10017 ∧
     t.mdu.due = some 1010000) ∧
    ((ran (.valvePeriodExpiry 0) (targeted 270)).chan .right).w = 0 ∧
    ((ran (.valvePeriodExpiry 0) (targeted 271)).chan .right).w = 5 ∧
    ((ran (.valvePeriodExpiry 0) (targeted 600)).chan .right).w = 90 := by decide +kernel

/-- A part whose RIGHT outlet closed at a time in 0.1 ms, and whose tracking run began at another. -/
def tracking (closed start : Int) (s : State) : State :=
  s.setChan .right { regulating with lastClosed := some (.outlet, closed), trackingStart := some start }

/-- R101 and R107 in ValvePeriod: a dead band over and not over, too little time left, an error of 100 and of 101 kPa,
and runs of 999.9 and 1000 ms. -/
theorem test_waiting_and_tracking :
    ((ran (.valvePeriodExpiry 0) (tracking 9990 0 (targeted 291))).chan .right).phase = .energised .inlet ∧
    ((ran (.valvePeriodExpiry 0) (tracking 9991 0 (targeted 291))).chan .right).opening =
      some { valve := .inlet, opensAt := 10001, endsAt := 10018, dump := false } ∧
    ((ran (.valvePeriodExpiry 0) (tracking 10075 0 (targeted 291))).chan .right).w = 17 ∧
    ((ran (.valvePeriodExpiry 0) (tracking 10076 0 (targeted 291))).chan .right).w = 0 ∧
    ((ran (.valvePeriodExpiry 0) (tracking 0 1 (targeted 362))).chan .right).trackingStart = none ∧
    ((ran (.valvePeriodExpiry 0) (targeted 363)).chan .right).trackingStart = some 10000 ∧
    ((ran (.valvePeriodExpiry 0) (tracking 0 1 (targeted 363))).chan .right).trackingStart = some 1 ∧
    (let t := ran (.valvePeriodExpiry 0) (tracking 0 0 (targeted 363))
     (t.chan .right).causes.tracking = true ∧ (t.chan .left).mode = .backup ∧ (t.chan .left).phase = .closed ∧
     (t.chan .front).mode = .regulate ∧ t.health.valveFault = true ∧ t.atc.pending.fault = true) := by decide +kernel

/-- The active part with the rear unit in BACKUP, LEFT with a cause set. -/
def backed (causes : CauseSet) : State :=
  let rear := { regulating with mode := .backup }
  { active with
    mdu := { active.mdu with channels := ⟨regulating, { rear with causes := causes }, rear⟩ }
    scu := { active.scu with channels := ⟨passing, { passing with state := .off }, { passing with state := .off }⟩ } }

/-- The premises of ValvePeriod's clauses on a unit in BACKUP, without a cause and with one. -/
theorem witness_backed (causes : CauseSet) : (backed causes).modeLaw ∧ ((backed causes).chan .left).mode = .backup ∧
    ((backed causes).chan .left).causes = causes ∧ (backed causes).isPending .clearFaults = false := by
  refine ⟨⟨rfl, ?_, ?_, ?_, ?_⟩, rfl, rfl, rfl⟩
  · intro c; cases c <;> exact ⟨by simp [State.chan, PerChannel.get, backed, regulating, ChannelRecord.reset], fun _ => ⟨rfl, rfl⟩⟩
  · intro c k h; cases c
    · cases k <;> rfl
    · cases h
    · cases h
  · exact ⟨fun h => absurd rfl h, fun h => by cases h⟩
  · intro c h; cases c
    · cases h
    · rfl
    · rfl

/-- R97 step 3 and R108 in ValvePeriod: empty cause sets, a standing cause with and without CLEAR_FAULTS pending, and a
latched one. -/
theorem test_return_to_regulate :
    let none : CauseSet := ⟨false, false, false, false, false, false, false, false⟩
    let period := fun (s : State) => ran (.valvePeriodExpiry 0) s
    (let t := period (backed none)
     (t.chan .left).mode = .regulate ∧ (t.chan .right).mode = .regulate ∧ (t.chan .front).mode = .regulate) ∧
    (let t := period (backed { none with sourceNone := true })
     (t.chan .left).mode = .backup ∧ (t.chan .right).mode = .backup ∧ (t.chan .left).causes.sourceNone = true) ∧
    ((period (ran (.takeClearFaults 0) (backed { none with sourceNone := true }))).chan .right).mode = .backup ∧
    ((period (backed { none with pdFault := true })).chan .right).mode = .backup := by decide +kernel

/-- A VALVE table of a period and a dead band. -/
def valveTable (period band : Nat) : List Nat := [period, 8, 154, 128, 5, band, 100, 1000]

/-- The active part with a VALVE table written and its take pending. -/
def valving (period band : Nat) : State :=
  ran (.takeValve 0) ((targeted 291).store8 0x0300 ((valveTable period band).flatMap bytes32))

/-- The take clauses of ValvePeriod; and R161: the age of a tracking run is a 16-bit item of the modulator section. -/
theorem test_valve_take :
    (let t := ran (.valvePeriodExpiry 0) (valving 20 10)
     t.mdu.group.period = 20 ∧ t.mdu.due = some 1020000 ∧ t.isPending .valve = false) ∧
    (ran (.valvePeriodExpiry 0) (valving 21 10)).xpt.reports.valve = { result := .acceptedClamped, detail := 1, count := 1 } ∧
    (let t := ran (.valvePeriodExpiry 0) ((targeted 291).setChan .front { regulating with faultCount := 7 })
     Memory.half t.mem 0x0FAA = 0 ∧ Memory.half t.mem 0x0FAC = 7) := by decide +kernel

/-- LEFT with an opening that waits until 1000.5 ms. -/
def waiting (dump : Bool) : State :=
  active.setChan .left { regulating with
    opening := some { valve := .outlet, opensAt := 10005, endsAt := 10060, dump := dump } }

/-- LEFT with its inlet open until 1000.5 ms. -/
def pulsing : State := active.setChan .left { regulating with phase := .energised .inlet, pulseEnd := some 10005 }

theorem witness_PulsesOpenAndEnd :
    (((waiting true).chan .left).opening.isSome = true ∧ (((1000000 + 500) / 100 : Nat) : Int) = 10005 ∧
      ((waiting true).chan .left).phase = .closed ∧ ((waiting true).chan .left).mode = .regulate) ∧
    (pulsing.chan .left).phase = .energised .inlet ∧ (pulsing.chan .left).pulseEnd = some 10005 := by decide +kernel

theorem test_pulses :
    ((ran (.pulseOpening 500 .left) (waiting false)).chan .left).phase = .energised .outlet ∧
    ran (.pulseOpening 499 .left) (waiting false) = (waiting false).elapse 499 ∧
    ((ran (.dumpOutletOpening 500 .left) (waiting true)).chan .left).pulseEnd = some 10060 ∧
    ((ran (.pulseEnd 500 .left) pulsing).chan .left).lastClosed = some (.inlet, 10005) ∧
    ran (.pulseEnd 499 .left) pulsing = pulsing.elapse 499 := by decide +kernel

/-- The clauses of NotDueDoesNothing on a waiting dump before its time, and with its channel not at rest in REGULATE. -/
theorem test_waiting_not_due :
    (let s := waiting true
     ran (.dumpOutletOpening 499 .left) s = s.elapse 499 ∧ ran (.pulseOpening 499 .left) s = s.elapse 499) ∧
    (let s := (waiting true).setChan .left { (waiting true).chan .left with mode := .backup }
     ran (.dumpOutletOpening 500 .left) s = s.elapse 500) ∧
    (let s := (waiting true).setChan .left { (waiting true).chan .left with phase := .energised .inlet }
     ran (.dumpOutletOpening 500 .left) s = s.elapse 500) ∧
    (let s := active.setChan .left { regulating with pulseEnd := some 0 }
     ran (.pulseEnd 0 .left) s = s) := by decide +kernel

theorem witness_DriverReport :
    driverCause .inlet .openLoad = some .inletOpen ∧ active.isRunning = true ∧ (active.chan .left).indication .inlet ≠ .openLoad ∧
    (active.chan .left).causes.get .inletOpen = false ∧ active.modeLaw :=
  ⟨rfl, rfl, by decide, rfl, active_modeLaw⟩

/-- The clauses of DriverReport: a fault, and OK. -/
theorem test_driver_report :
    (let t := ran (.driverReport 0 .left .inlet .openLoad) active
     (t.chan .left).causes.inletOpen = true ∧ (t.chan .right).mode = .backup ∧ (t.chan .left).faultCount = 1 ∧
     t.health.valveFault = true ∧ t.atc.pending.fault = true ∧ t.pins.monitors.left.inlet = .openLoad) ∧
    (let t := ran (.driverReport 0 .left .inlet .ok) (ran (.driverReport 0 .left .inlet .openLoad) active)
     (t.chan .left).inlet = .ok ∧ (t.chan .left).causes.inletOpen = true ∧ (t.chan .left).mode = .backup) := by
  decide +kernel

/-- The rear unit in BACKUP for an open inlet of LEFT that shows an indication, CLEAR_FAULTS pending. -/
def faulted (i : Indication) : State :=
  ran (.takeClearFaults 0) (ran (.driverReport 0 .left .inlet i) (ran (.driverReport 0 .left .inlet .openLoad) active))

theorem witness_ClearFaults :
    (faulted .ok).isRunning = true ∧ dueAt (faulted .ok).mdu.due ((faulted .ok).uptime + 0) ∧
    (faulted .ok).isPending .clearFaults = true ∧ (faulted .ok).unitMode .rear = .backup ∧
    ((faulted .ok).chan .left).causes.hasLatched = true ∧ (faulted .ok).rearPairLaw := by
  refine ⟨by decide +kernel, ⟨1000000, by decide +kernel, by decide +kernel⟩, by decide +kernel, by decide +kernel,
    by decide +kernel, ?_⟩
  show ((faulted .ok).chan .left).mode = ((faulted .ok).chan .right).mode
  decide +kernel

/-- The clauses of ClearFaults: gone, and still there. -/
theorem test_clear_faults :
    (let t := ran (.valvePeriodExpiry 0) (faulted .ok)
     (t.chan .left).causes.inletOpen = false ∧ (t.chan .left).mode = .regulate ∧ (t.chan .right).mode = .regulate ∧
     t.isPending .clearFaults = false) ∧
    (let t := ran (.valvePeriodExpiry 0) (faulted .openLoad)
     (t.chan .left).causes.inletOpen = true ∧ (t.chan .left).mode = .backup ∧
     t.xpt.reports.clearFaults.result = .accepted) := by decide +kernel

/-! ### Rollover -/

/-- What an evaluation makes of a state. -/
def evaluation (s : State) : State := ran (.evaluationExpiry 0) s

/-- The active part in a curve: Af, the part-laden REAR ratio of Section 7.3.1, no shift of the bellows, a tyre penalty of
10, vref 2200. -/
def curve (af : Int) : State :=
  let s := active.setAf af
  { s with
    ldu := { s.ldu with rear := { Axle.reset with r := 2084, valid := true } }
    wsu := { s.wsu with vref := 2200 }, tyu := { s.tyu with penalty := 10 } }

/-- A curve in a stage, with requests on FRONT, LEFT and RIGHT. -/
def staged (stage : Stage) (af front left right : Int) : State :=
  let s := curve af
  s.setRou { s.rou with stage := stage, outer := .right, pRoll := ⟨front, left, right⟩, stageEntry := 500 }

/-- Table 7.5, 0 to 40: QUIET, WATCH at the watch level 239, and a test in the next evaluation. -/
theorem test_watch_and_test :
    (evaluation (curve 238)).rou.stage = .quiet ∧ (evaluation (curve 239)).rou.stage = .watch ∧
    (let t := evaluation (staged .watch 262 0 0 0)
     t.rou.stage = .test ∧ t.aac.test.current = 19 ∧ t.rou.testChannel = some .left ∧ t.rou.pRoll = ⟨0, 60, 0⟩ ∧
     t.rou.testSign = some .positive ∧ t.rou.tests = 1) := by decide +kernel

/-- A test in flight since a time in milliseconds. -/
def testing (start : Time) : State :=
  let s := staged .test 281 0 60 0
  s.setRou { s.rou with
    testStart := some start, lastTest := some start, testChannel := some .left, testSign := some .positive }

/-- Table 7.5: GRIP after 300 ms, LIFT at slip 300, and DEMAND. -/
theorem test_test_ends :
    (evaluation (testing 701)).rou.stage = .test ∧
    (let t := evaluation (testing 700)
     t.rou.stage = .watch ∧ t.rou.testResult = .grip ∧ t.rou.testChannel = none ∧ t.rou.pRoll = ⟨0, 0, 0⟩ ∧
     Memory.half t.mem 0x1402 = 0x0100 ∧ Memory.half t.mem 0x1412 = 0x0201) ∧
    (let t := evaluation ((testing 900).setWheel .a2l { rolling 1000 with slip := 300 })
     t.rou.stage = .brake ∧ t.rou.testResult = .lift ∧ t.rou.pRoll = ⟨150, 75, 150⟩ ∧ t.atc.pending.roll = true ∧
     Memory.half t.mem 0x1402 = 0x0201 ∧ Memory.half t.mem 0x1412 = 0x0203) ∧
    (evaluation ((testing 900).setDemand { active.ldu.demand with d := 51 })).rou.testResult = .inconclusive := by
  decide +kernel

theorem witness_RolloverStages :
    dueAt (curve 319).rou.due ((curve 319).uptime + 0) ∧ (curve 319).xpt.device = .active :=
  ⟨dueNow (by decide), rfl⟩

/-- The threshold of 319 met and not met, and the raised axle lowered. -/
theorem test_brake_entry :
    (evaluation (curve 319)).rou.stage = .brake ∧ (evaluation (curve 319)).rou.outer = .right ∧
    (evaluation (curve 318)).rou.stage = .watch ∧ (evaluation (curve (-319))).rou.outer = .left ∧
    (evaluation (lifted .raised 15 (curve 319))).lfc.moveCause = .rollover := by decide +kernel

/-- A curve in a stage without requests, the Ay entry lost. -/
def blind (stage : Stage) : State := (staged stage 400 0 0 0).setEntry .ay { reading 0 with state := .fault }

/-- A part with the rear bellows at two pressures. -/
def leaning (bl br : Int) (s : State) : State := (s.setEntry .bl (reading bl)).setEntry .br (reading br)

/-- WATCH and the loss of Ay in RolloverStages: calm for 499 and for 500 ms, Ay lost, and the transfer at 649 and 650. -/
theorem test_watch_ends :
    (let s := staged .watch 190 0 0 0
     (evaluation (s.setRou { s.rou with calmStart := some 501 })).rou.stage ≠ .quiet ∧
     (evaluation (s.setRou { s.rou with calmStart := some 500 })).rou.stage = .quiet) ∧
    (evaluation (blind .watch)).rou.stage = .quiet ∧ (evaluation (blind .test)).rou.testResult = .inconclusive ∧
    (evaluation (blind .test)).rou.stage = .quiet ∧ (evaluation (blind .brake)).rou.stage = .holdoff ∧
    (evaluation (leaning 351 1649 (staged .watch 0 0 0 0))).rou.stage ≠ .brake ∧
    (let t := evaluation (leaning 350 1650 (blind .test))
     t.rou.stage = .brake ∧ t.rou.outer = .right) ∧ (evaluation (leaning 1650 350 (blind .quiet))).rou.outer = .left := by
  decide +kernel

/-- TEST, BRAKE and HOLDOFF in RolloverStages: a lost channel, a turned sign, an interval not over, a refused grant, the
release level 191, the transfer limit in BRAKE, and the holdoff time with and without requests. -/
theorem test_stage_ends :
    (evaluation ((testing 900).setSlip .left { passing with state := .off })).rou.stage = .watch ∧
    (evaluation ((testing 900).setAf (-1))).rou.testResult = .inconclusive ∧ (evaluation ((testing 900).setAf 0)).rou.stage = .test ∧
    (let s := staged .watch 262 0 0 0
     (evaluation (s.setRou { s.rou with lastTest := some 1 })).rou.stage = .watch ∧
     (evaluation (s.setEntry .pres (reading 449))).rou.refusals = 1) ∧
    (evaluation (staged .brake 191 0 0 0)).rou.stage = .brake ∧ (evaluation (staged .brake 190 0 0 0)).rou.stage = .holdoff ∧
    (evaluation (leaning 350 1650 (staged .brake 0 0 0 0))).rou.stage = .brake ∧
    (let s := staged .holdoff 239 0 0 0
     (evaluation s).rou.stage = .watch ∧ (evaluation (s.setRou { s.rou with stageEntry := 501 })).rou.stage = .holdoff ∧
     (evaluation (staged .holdoff 238 0 0 0)).rou.stage = .quiet ∧ (evaluation (staged .holdoff 0 0 1 0)).rou.stage = .holdoff) := by
  decide +kernel

/-- A part with a ROLL table written and its take pending. -/
def rollTaking (s : State) : State := ran (.takeRoll 0) (s.store8 0x0400 ((rollTable.set 13 30).flatMap bytes32))

/-- The take clauses of EvaluationThreshold, in QUIET and in WATCH; and R161: the ages of a calm run and of a test are
16-bit items of the rollover section. -/
theorem test_roll_take :
    (evaluation (rollTaking (curve 0))).rou.group.rampStep = 30 ∧ (evaluation (rollTaking (curve 0))).isPending .roll = false ∧
    (evaluation (rollTaking (staged .watch 0 0 0 0))).isPending .roll = true ∧
    (let s := staged .watch 190 0 0 0
     let t := evaluation (s.setRou { s.rou with calmStart := some 800, lastTest := some 900 })
     Memory.half t.mem 0x1058 = 200 ∧ Memory.half t.mem 0x105A = 0 ∧ Memory.half t.mem 0x105C = 0) := by decide +kernel

/-- The clauses of InterventionRequests (Table 7.5, 1120, 1200, and the cap of 500). -/
theorem test_requests :
    (evaluation (staged .brake 300 150 75 150)).rou.pRoll = ⟨170, 85, 170⟩ ∧
    (evaluation (staged .brake 300 490 245 490)).rou.pRoll = ⟨500, 250, 500⟩ ∧
    (evaluation (staged .brake 185 230 115 230)).rou.pRoll = ⟨210, 95, 210⟩ ∧
    (evaluation (staged .holdoff 185 30 15 20)).rou.pRoll = ⟨10, 0, 0⟩ ∧
    (evaluation (staged .holdoff 40 0 0 0)).rou.stage = .quiet ∧
    (evaluation (staged .holdoff 330 30 15 20)).rou.pRoll = ⟨150, 75, 150⟩ := by decide +kernel

/-- A curve in an intervention with the rear unit in a mode and the unavailable flag as it stands. -/
def intervening (stage : Stage) (af : Int) (mode : Mode) (unavailable : Bool) : State :=
  let s := staged stage af 150 75 150
  let rear := { regulating with mode := mode }
  (s.setRou { s.rou with unavailable := unavailable }).setChan .left rear |>.setChan .right rear

/-- The clauses of InterventionRequests on the unavailable flag: 0 to 1 in BRAKE, 1 to 0 in BRAKE and at a release to
HOLDOFF, 1 to 0 as HOLDOFF ends, and no change. -/
theorem test_unavailable :
    (let t := evaluation (intervening .brake 300 .backup false)
     t.rou.unavailable = true ∧ t.atc.pending.roll = true ∧ t.jrw.w = 1 ∧ Memory.half t.mem 0x1402 = 0x0303 ∧
     Memory.word t.mem 0x140C = 319 * 65536 + 256 + 10) ∧
    (let t := evaluation (intervening .brake 300 .regulate true)
     t.rou.unavailable = false ∧ t.atc.pending.roll = false ∧ t.jrw.w = 1 ∧ Memory.word t.mem 0x140C = 319 * 65536 + 10) ∧
    (let t := evaluation (intervening .brake 190 .regulate true)
     t.rou.stage = .holdoff ∧ t.jrw.w = 2 ∧ Memory.word t.mem 0x140C = 319 * 65536 + 256 + 7 ∧
     Memory.half t.mem 0x1412 = 0x0404) ∧
    (let s := intervening .holdoff 40 .backup true
     let t := evaluation (s.setRou { s.rou with pRoll := ⟨0, 0, 0⟩ })
     t.rou.stage = .quiet ∧ t.rou.unavailable = false ∧ t.atc.pending.roll = false ∧ t.jrw.w = 1) ∧
    (evaluation (intervening .brake 300 .backup true)).jrw.w = 0 := by decide +kernel

/-- Log 42: the TEST grant that spends the last count shows the degraded flag at step 7 of its own evaluation, and lowers
the threshold at the next. -/
theorem test_last_test :
    let s := staged .watch 262 0 0 0
    let t := evaluation { s with aac := { s.aac with test := { s.aac.test with current := 1 } } }
    t.rou.stage = .test ∧ Memory.half t.mem 0x1070 = 1 ∧ t.rou.aThr = 319 ∧
    (ran (.evaluationExpiry 20000) t).rou.aThr = 287 := by decide +kernel

/-! ### Tyres -/

/-- A telegram open with so many of its characters, CD asserted. -/
def receiving (n : Nat) (s : State) : State :=
  { s with
    pins := { s.pins with cd := true }
    tyu := { s.tyu with isOpen := true, buffer := telegram.take n, gapTimer := some 1001000 } }

/-- The active part with CD asserted and the receiver IDLE. -/
def listening : State := ran (.cdAsserted 0) active

/-- The premises of CharactersAndCarrier's clauses. -/
theorem witness_CharactersAndCarrier :
    (listening.isRunning = true ∧ listening.pins.cd = true ∧ listening.tyu.isOpen = false) ∧
    (receiving 7 active).isRunning = true ∧ (receiving 7 active).pins.cd = true ∧
    (receiving 7 active).tyu.isOpen = true ∧ (receiving 7 active).tyu.buffer.length < 8 := by decide +kernel

/-- The clauses of CharactersAndCarrier: SYNC and another byte in IDLE, the eighth character, CD deasserted. -/
theorem test_characters :
    (ran (.characterArrival 0 0x7E true true) listening).tyu.isOpen = true ∧
    (ran (.characterArrival 0 0x7E false true) listening).tyu.isOpen = false ∧
    ran (.characterArrival 0 0x7D true true) listening = listening ∧
    (ran (.characterArrival 0 0x02 true true) (receiving 7 active)).tyu.buffer = telegram.take 8 ∧
    (ran (.characterArrival 0 0x02 true true) (receiving 7 active)).tyu.gapTimer = some 1002000 ∧
    ran (.characterArrival 0 0x7E true true) active = active := by decide +kernel

theorem witness_TelegramDiscarded :
    (receiving 8 active).tyu.isOpen = true ∧ (receiving 8 active).isRunning = true ∧ (receiving 8 active).pins.cd = true ∧
    (receiving 8 active).tyu.buffer.length = 8 ∧ dueAt (receiving 8 active).tyu.gapTimer ((receiving 8 active).uptime + 1000) :=
  ⟨rfl, rfl, rfl, rfl, dueNow (by decide)⟩

/-- The clauses of TelegramDiscarded: each error and its count. -/
theorem test_discards :
    (ran (.characterArrival 0 0x42 false false) (receiving 8 active)).tyu.frameErrors = 1 ∧
    (ran (.characterArrival 0 0x42 false true) (receiving 8 active)).tyu.parityErrors = 1 ∧
    (ran (.characterArrival 0 0x43 true true) (receiving 8 active)).tyu.checkErrors = 1 ∧
    (ran (.gapTimerExpiry 1000) (receiving 3 active)).tyu.gapErrors = 1 ∧
    ran (.gapTimerExpiry 999) (receiving 3 active) = (receiving 3 active).elapse 999 ∧
    (ran (.cdDeasserted 0) (receiving 3 active)).tyu.gapErrors = 1 ∧
    (ran (.cdDeasserted 0) (receiving 3 active)).health.telegramErr = true := by decide +kernel

/-- The eight characters of Section 8.2.1's telegram, its sensor in slot 9 and not heard yet. -/
def heard : State :=
  receiving 8 (active.setSlot 9 { twinTyre 0x1A2B3C4D .outer 0 .unknown with p20 := none, silentTimer := 480 })

/-- The premises of TelegramJudged, for a stranger and for a known sensor. -/
theorem witness_TelegramJudged :
    heard.isRunning = true ∧ heard.pins.cd = true ∧ heard.tyu.isOpen = true ∧ heard.tyu.buffer.length = 8 ∧
    heard.isPending .tyre = false ∧ checkOf heard.tyu.buffer = 66 ∧ (heard.slot 9).occupied = true ∧
    (heard.slot 9).id = 0x1A2B3C4D ∧ ((receiving 8 active).slot 9).occupied = false := by decide +kernel

/-- Table 8.3, time 0; and a stranger. -/
theorem test_telegram :
    (let t := ran (.characterArrival 0 66 true true) heard
     (t.slot 9).lastP = some 822 ∧ (t.slot 9).lastT = some 50 ∧ (t.slot 9).p20 = some 736 ∧ (t.slot 9).state = .normal ∧
     (t.slot 9).leakRef = some (736, 1000) ∧ (t.slot 9).rotating = true ∧ (t.slot 9).batteryLow = false ∧
     t.tyu.telegrams = 1 ∧ t.tyu.isOpen = false) ∧
    (ran (.characterArrival 0 66 true true) (receiving 8 active)).tyu.strangers = 1 := by decide +kernel

/-- The known sensor's slot with a leak reference at a time, a rate and a count. -/
def leaky (start : Time) (count : Nat) : State :=
  heard.setSlot 9 { heard.slot 9 with
    p20 := some 900, leakRef := some (746, start), leakRate := some 10, leakCount := count }

/-- A part with a TYRE take pending: one entry, the telegram's sensor at slot 0. -/
def retyred (s : State) : State :=
  ran (.takeTyre 0) (s.store8 0x0500 ([70, 85, 10, 480, 328, 10, 30, 60, 1, 0x1A2B3C4D, 5, 2, 800].flatMap bytes32))

/-- The leak clauses of TelegramJudged at 19,999 and 20,000 ms and at a count of 255, and its take. -/
theorem test_leak_and_tyre_take :
    (let x := (ran (.characterArrival 0 66 true true) (leaky (1000 - 19999) 0)).slot 9
     x.leakRef = some (746, 1000 - 19999) ∧ x.leakRate = some 10 ∧ x.leakCount = 1) ∧
    (let x := (ran (.characterArrival 0 66 true true) (leaky (1000 - 20000) 255)).slot 9
     x.leakRef = some (736, 1000) ∧ x.leakRate = some 30 ∧ x.leakCount = 255 ∧ x.state = .leaking) ∧
    (let s := retyred heard
     let t := ran (.characterArrival 0 66 true true) s
     s.isPending .tyre = true ∧ t.isPending .tyre = false ∧ (t.slot 0).id = 0x1A2B3C4D ∧ (t.slot 0).state = .unknown ∧
     (t.slot 9).occupied = false ∧ t.tyu.telegrams = 1) := by decide +kernel

/-- R142 and R144 in TelegramJudged: into NORMAL, into CRITICAL, CRITICAL as it was; with the wheel end's export. -/
theorem test_tyre_attention :
    let told := fun (pNom : Int) (state : TyreState) =>
      ran (.characterArrival 0 66 true true) (heard.setSlot 9 { heard.slot 9 with pNom := pNom, state := state })
    (told 800 .critical).atc = heard.atc ∧ (told 800 .critical).jrw.w = 0 ∧
    (told 800 .critical).tyu.exports.a3r = { deficit := 80, factor := 4070, flat := false } ∧
    (let t := told 1200 .silent
     t.atc.pending.tyre = true ∧ t.jrw.w = 1 ∧ Memory.byte t.mem 0x1401 = 9 ∧ Memory.half t.mem 0x1402 = 0x0503 ∧
     Memory.word t.mem 0x1408 = 736 ∧ t.tyu.exports.a3r.flat = true ∧ t.tyu.penalty = 30) ∧
    (told 1200 .critical).atc = heard.atc ∧ (told 1200 .critical).tyu.exports.a3r.flat = true := by decide +kernel

/-- R147 in TelegramDiscarded: the loss of CD takes a pending TYRE group, and leaves the table without one. -/
theorem test_take_at_discard :
    (let t := ran (.cdDeasserted 0) (retyred (receiving 3 leakingTwin))
     t.isPending .tyre = false ∧ (t.slot 0).id = 0x1A2B3C4D ∧ (t.slot 9).occupied = false ∧ t.tyu.gapErrors = 1 ∧
     t.tyu.exports.a3r = { deficit := 0, factor := 4096, flat := false } ∧ t.atc.pending.tyre = false ∧ t.jrw.w = 1) ∧
    (let t := ran (.cdDeasserted 0) (receiving 3 leakingTwin)
     t.tyu.slots = leakingTwin.tyu.slots ∧ t.atc = leakingTwin.atc ∧ t.jrw.w = 0) := by decide +kernel

/-- The clauses of SilenceScan: vref 299 and 300, and the 480th and 481st second. -/
theorem test_silence_scan :
    let at_ := fun (vref : Int) (n : Nat) =>
      let s := active.setSlot 9 { twinTyre 5 .outer 736 .normal with silentTimer := n }
      ran (.silenceScan 0) { s with wsu := { s.wsu with vref := vref } }
    ((at_ 299 480).slot 9).silentTimer = 480 ∧ ((at_ 300 479).slot 9).state = .normal ∧
    ((at_ 300 480).slot 9).state = .silent ∧ (at_ 300 480).atc.pending.tyre = true ∧
    Memory.half (at_ 300 480).mem 0x1402 = 0x0105 ∧ (at_ 300 479).atc = active.atc ∧ (at_ 300 479).jrw.w = 0 := by
  decide +kernel

/-! ### Air -/

/-- The premises of ReservoirSample. -/
theorem witness_ReservoirSample : active.isRunning = true ∧ active.atc.supply = active.aac.critical := ⟨rfl, rfl⟩

/-- The critical flag in ReservoirSample at the critical level 350 and at 360 (trim 0 and 4096 for Pres). -/
theorem test_critical_flag :
    let unit := { active with sfe := { active.sfe with trims := { active.sfe.trims with pres := ⟨0, 4096⟩ } } }
    let low := ran (.sampleCompletion 0 .pres 349) unit
    (ran (.sampleCompletion 0 .pres 350) unit).aac.critical = false ∧ low.aac.critical = true ∧
    low.atc.pending.supply = true ∧ (ran (.sampleCompletion 0 .pres 359) low).aac.critical = true ∧
    (ran (.sampleCompletion 0 .pres 360) low).aac.critical = false ∧
    (ran (.sampleCompletion 0 .pres 99) low).aac.critical = true := by decide +kernel

/-- The active part with Pres as its counts say, the TEST allowance masked, and the last reload at a time. -/
def spent (reload : Time) : State :=
  { active with
    sfe := { active.sfe with trims := { active.sfe.trims with pres := ⟨0, 4096⟩ } }
    aac := { active.aac with test := { active.aac.test with current := 0 }, lastReload := reload }
    rou := { active.rou with degraded := true } }

/-- A part with an AIR table of a TEST base count written and its take pending. -/
def airing (base : Nat) (s : State) : State :=
  ran (.takeAir 0) (s.store8 0x0600 ([450, 350, 700, 10, base, 6, 1, 60000].flatMap bytes32))

/-- The reload and take clauses of ReservoirSample: 699 and 700 kPa, 59,999 and 60,000 ms, and an AIR take with TEST at a
base of 3 and of 0. -/
theorem test_reload_and_air_take :
    (ran (.sampleCompletion 0 .pres 699) (spent (1000 - 60000))).aac.test.current = 0 ∧
    (ran (.sampleCompletion 0 .pres 700) (spent (1000 - 59999))).aac.test.current = 0 ∧
    (let t := ran (.sampleCompletion 0 .pres 700) (spent (1000 - 60000))
     t.aac.test.current = 20 ∧ t.aac.lastReload = 1000 ∧ t.rou.degraded = false) ∧
    (let t := ran (.sampleCompletion 0 .pres 500) (airing 3 (spent 900))
     t.aac.test.current = 3 ∧ t.aac.lastReload = 1000 ∧ t.rou.degraded = false ∧ t.isPending .air = false) ∧
    (ran (.sampleCompletion 0 .pres 500) (airing 0 active)).rou.degraded = true := by decide +kernel

/-! ### The setting tables -/

/-- The part after reset with words written at an address. -/
def written (a : Nat) (words : List Nat) : State := State.reset.store8 a (words.flatMap bytes32)

/-- The clauses of ValidationVerdict on Tables 2.9, 2.10 and 3.4, at and beyond the ends of ranges and orders. -/
theorem test_ldu_tables :
    (let verdict := fun i n => (written 0x0000 ((vehicleTable 1).set i n)).vehicleVerdict.1
     verdict 1 1 = .accepted ∧ verdict 1 0 = .refused 1 ∧ verdict 6 300 = .refused 6 ∧ verdict 7 818 = .refused 7 ∧
     verdict 13 4096 = .accepted ∧ verdict 13 4097 = .refused 13 ∧ verdict 14 5001 = .acceptedClamped 1 ∧
     verdict 21 2 = .refused 21) ∧
    (let verdict := fun i n => (written 0x0100 ((loadTable 60 20).set i n)).loadVerdict.1
     verdict 0 20 = .accepted ∧ verdict 0 19 = .acceptedClamped 1 ∧ verdict 5 2 = .refused 5 ∧ verdict 7 1024 = .refused 7 ∧
     verdict 11 59 = .accepted ∧ verdict 11 60 = .refused 11) := by decide +kernel

/-- The same on Tables 5.5, 6.6, 7.4 and 9.2, with the worked check of Table 6.6. -/
theorem test_control_tables :
    (let verdict := fun i n => (written 0x0200 ((slipTable 4).set i n)).slipVerdict.1
     verdict 2 179 = .accepted ∧ verdict 2 180 = .refused 2 ∧ verdict 10 3 = .refused 10 ∧ verdict 26 252 = .refused 26 ∧
     verdict 7 16 = .acceptedClamped 1) ∧
    (let verdict := fun width => (written 0x0300 [5, 8, 154, 128, width, 30, 100, 1000]).valveVerdict.1
     verdict 19 = .accepted ∧ verdict 20 = .refused 4 ∧ verdict 21 = .refused 4) ∧
    (let verdict := fun i n => (written 0x0400 (rollTable.set i n)).rollVerdict.1
     verdict 1 420 = .accepted ∧ verdict 1 421 = .refused 1 ∧ verdict 4 1228 = .refused 4 ∧ verdict 14 150 = .accepted ∧
     verdict 14 149 = .refused 14 ∧ verdict 13 0 = .acceptedClamped 1) ∧
    (let verdict := fun i n => (written 0x0600 ([450, 350, 700, 10, 20, 6, 1, 60000].set i n)).airVerdict.1
     verdict 1 449 = .accepted ∧ verdict 1 450 = .refused 1 ∧ verdict 2 450 = .refused 2 ∧ verdict 6 2 = .refused 6 ∧
     verdict 7 9999 = .acceptedClamped 1) := by decide +kernel

/-- The same on Table 8.4, with a roster of two entries: the words beyond the entry count are ignored. -/
theorem test_tyre_table :
    let verdict := fun i n =>
      (written 0x0500 ([70, 85, 10, 480, 328, 10, 30, 60, 2, 7, 2, 1, 800, 8, 2, 2, 800].set i n)).tyreVerdict.1
    verdict 1 71 = .accepted ∧ verdict 1 70 = .refused 1 ∧ verdict 9 0 = .refused 9 ∧ verdict 9 0xFFFFFFFF = .refused 9 ∧
    verdict 13 7 = .refused 13 ∧ verdict 14 6 = .refused 14 ∧ verdict 15 1 = .refused 15 ∧ verdict 15 0 = .refused 15 ∧
    verdict 11 0 = .refused 15 ∧ verdict 15 3 = .refused 15 ∧ verdict 16 1201 = .acceptedClamped 1 ∧
    verdict 8 1 = .accepted ∧ verdict 8 13 = .refused 17 := by decide +kernel

/-- The TEST allowance with so many counts and a reservoir pressure. -/
def counted (n : Int) (pres : Int) : State :=
  { active.setEntry .pres (reading pres) with aac := { active.aac with test := { active.aac.test with current := n } } }

/-- Table 9.3, and the clauses of AllowanceAnswer at 449 and 450 kPa and at 0 and 1 counts. -/
theorem test_allowance :
    (counted 1 450).wouldGrant .test = true ∧ (counted 1 449).wouldGrant .test = false ∧
    ((counted 1 470).answerRequest .test).rou.degraded = true ∧
    ((counted 1 470).answerRequest .test).aac.test.current = 0 ∧
    ((counted 2 540).answerRequest .test).rou.degraded = false ∧
    ((counted 1 430).answerRequest .test).aac.test.refusedReserve = 1 ∧
    ((counted 0 520).answerRequest .test).aac.test.refusedCount = 1 := by decide +kernel

/-! ### The port -/

/-- The command and address bytes of a transaction. -/
def header (command : Byte) (a : Nat) : List Byte := [command, BitVec.ofNat 8 (a / 256), BitVec.ofNat 8 a]

/-- A READ of so many bytes. -/
def readFrom (a n : Nat) : Instr := .read 0 true (header 0x6C a ++ List.replicate n 0) true

/-- A WRITE of bytes. -/
def writeTo (a : Nat) (bytes : List Byte) : Instr := .write 0 true (header 0x6E a ++ bytes) true

/-- The premises of the port statements, a READ up to the registers and a WRITE at an address above 0x3FFF. -/
theorem witness_port :
    active.pins.nreset = false ∧ active.port.txn = none ∧
    ((0x3F : Byte).toNat * 256 + (0xEC : Byte).toNat) % 0x4000 + 4 ≤ 0x3FF0 ∧
    ((0x4C : Byte).toNat * 256 + (0x00 : Byte).toNat) % 0x4000 = 0x0C00 := by decide

/-- R158, R159: reads and writes of memory, at the edges of the regions, modulo 0x4000. -/
theorem test_port_memory :
    (ran (readFrom 0x0801 3) active).port.out = [0, 0x90, 1] ∧ (ran (readFrom 0xC801 3) active).port.out = [0, 0x90, 1] ∧
    Memory.byte (ran (writeTo 0x0BFE [7, 8, 9]) active).mem 0x0BFF = 8 ∧
    Memory.byte (ran (writeTo 0x0BFE [7, 8, 9]) active).mem 0x0C00 = 0 ∧
    Memory.byte (ran (writeTo 0x17FF [7, 8]) active).mem 0x17FF = 0 ∧
    Memory.byte (ran (writeTo 0x57FF [7, 8]) active).mem 0x1800 = 8 ∧
    (ran (readFrom 0x3FFC 5) active).port.out = [0, 0, 0, 0, 0] := by decide +kernel

/-- R158: another command is ignored until the transaction ends, and a header cut off has no effect. -/
theorem test_port_ignored :
    ran (.write 0 true (header 0x6D 0x0800 ++ [9, 9, 9, 9]) true) active = active ∧
    ran (.read 0 true [0x6C, 0x3F] true) active = active ∧ ran (.write 0 true [0x6E, 0x08, 0x00] true) active = active ∧
    (let t := ran (.write 0 true [0x00] false) active
     t.port.txn = some .ignored ∧ ran (.write 0 false (header 0x6E 0x0800 ++ [9, 9, 9, 9]) true) t = active) ∧
    (let t := ran (.write 0 true [0x6E, 0x08] false) active
     t.port.txn = some (.header [0x6E, 0x08]) ∧ Memory.byte (ran (.write 0 false [0x01, 7] true) t).mem 0x0801 = 7 ∧
     (ran (.nresetAsserted 0) t).port.txn = none) := by decide +kernel

/-- R158: a transaction in parts: the latch keeps the old word; a word half written is not seen, and is lost at nRESET. -/
theorem test_port_parts :
    (let t := ran (.read 0 true (header 0x6C 0x0800 ++ [0]) false) active
     (ran (.read 0 false [0, 0, 0] true) { t with mem := [] }).port.out = [0x01, 0, 0x90, 1]) ∧
    (let t := ran (.write 0 true (header 0x6E 0x0800 ++ [9, 9]) false) active
     t.mem = active.mem ∧ Memory.byte (ran (.write 0 false [9] true) t).mem 0x0801 = 9 ∧
     (ran (.nresetAsserted 0) t).mem = active.mem) := by decide +kernel

/-- R159, R163, R169: the registers through READ and WRITE. -/
theorem test_port_registers :
    (ran (readFrom 0x3FF0 2) active).port.out = [0x61, 0x2E] ∧ (ran (readFrom 0x3FF3 1) active).health = active.health ∧
    (ran (writeTo 0x3FFA [3]) active).xpt = active.xpt ∧ (ran (writeTo 0x3FFA [3, 0]) active).isPending .load = true ∧
    ran (writeTo 0x3FFA [0, 1]) active = ran (.takeClearFaults 0) active ∧
    (ran (readFrom 0x3FFA 2) (ran (writeTo 0x3FFA [0, 1]) active)).port.out = [0, 1] := by decide +kernel

/-- Sets of levels. -/
def levels (ls : List Level) : PerLevel Bool := PerLevel.tabulate ls.contains

/-- The active part with levels pending and in service. -/
def attending (pending inService : List Level) : State :=
  { active with atc := { active.atc with pending := levels pending, inService := levels inService } }

/-- R159, R170, R171: reads of the sets, and a single register byte: the higher one takes no action, the lower one does. -/
theorem test_port_register_bytes :
    (let s := attending [.journal] [.slip]
     (ran (readFrom 0x3FF6 2) s).port.out = [4, 0] ∧ (ran (readFrom 0x3FF8 2) s).port.out = [0, 0] ∧
     ran (readFrom 0x3FF5 1) s = { s with port := { txn := none, out := [0] } }) ∧
    (let s := attending [.fault] []
     (ran (readFrom 0x3FF4 1) s).port.out = [0] ∧ (ran (readFrom 0x3FF4 1) s).atc.inService.fault = true) ∧
    (ran (readFrom 0x3FFB 1) (ran (.takeClearFaults 0) active)).port.out = [1] ∧
    ran (writeTo 0x3FF9 [0xFF]) active = active ∧ ran (writeTo 0x3FF8 [0xFF]) active = active ∧
    ran (writeTo 0x3FFF [0xFF]) active = active := by decide +kernel

/-- R158, Table 10.1: 0x3FFC to 0x3FFF read as 0 and ignore writes, and a transaction goes on at 0x0000. -/
theorem test_port_wrap :
    (let t := ran (writeTo 0x3FFC [1, 2, 3, 4, 5, 6]) active
     t = { active with mem := t.mem } ∧ Memory.byte t.mem 0 = 5 ∧ Memory.byte t.mem 1 = 6 ∧ Memory.byte t.mem 2 = 0 ∧
     (ran (readFrom 0x3FFC 6) t).port.out = [0, 0, 0, 0, 5, 6] ∧ (ran (readFrom 0x7FFF 3) t).port.out = [0, 5, 6]) := by
  decide +kernel

/-- R162, R172: RESET_SEEN and CAL_BUSY, and a standing sensor fault (Table 10.7, 5 and 46). -/
theorem test_health :
    (ran (.healthRead 5000) State.reset).port.out = [3, 0] ∧ (ran (.healthRead 5000) State.reset).health.resetSeen = false ∧
    (let t := ran (.healthRead 0) (ran (.staleTimerExpiry 0 .pres) (sensing .pres .stale))
     t.port.out = [9, 0] ∧ t.health.sensorFault = true) := by decide +kernel

/-- Table 11.2, and the clauses of PollTakesTheLowestLevel: a level that waits, and none. -/
theorem test_polls :
    (let t := ran (.attnPoll 0) (attending [.fault, .take] [.journal])
     t.port.out = [0, 0] ∧ t.atc.inService = levels [.fault, .journal] ∧ t.atc.pending = levels [.take] ∧
     t.atc.nattn = false) ∧
    (let t := ran (.attnPoll 0) (attending [.take] [.journal])
     t.port.out = [0xFF, 0] ∧ t.atc = (attending [.take] [.journal]).atc) := by decide +kernel

/-- Table 11.2, and the clauses of EndLeavesService: a specific and a non-specific end, a level not in service, and another
value. -/
theorem test_ends :
    (ran (.attnEnd 0 0x000F) (attending [.take] [.fault, .journal])).atc.inService = levels [.journal] ∧
    (let t := ran (.attnEnd 0 4) (attending [.take] [.journal])
     t.atc.inService = levels [] ∧ t.atc.pending = levels [.take] ∧ t.atc.nattn = true) ∧
    ran (.attnEnd 0 3) (attending [.take] [.journal]) = attending [.take] [.journal] ∧
    ran (.attnEnd 0 0x0010) (attending [.take] [.journal]) = attending [.take] [.journal] := by decide +kernel

theorem test_mask :
    (ran (.attnMaskWrite 0 0xFF40) (attending [.take] [])).atc.mask = levels [.take] ∧
    (ran (.attnMaskWrite 0 0x0040) (attending [.take] [])).atc.nattn = false ∧
    (ran (.attnMaskWrite 0 0x0000) (attending [.take] [])).atc.nattn = true ∧
    ran (.registerWriteIgnored 0 .attnPoll 0xFFFF) active = active := by decide +kernel

/-! ### Takes -/

/-- The premises of TakeRequests' clauses: pending, waiting, TYRE at once. -/
theorem witness_TakeRequests :
    (ran (.takeSlip 0) active).isPending .slip = true ∧ active.isPending .slip = false ∧
    active.isPending .tyre = false ∧ active.isRunning = true ∧ active.tyu.isOpen = false ∧
    (receiving 3 active).tyu.isOpen = true ∧ active.isPending .report = false := by decide +kernel

theorem test_takes_wait :
    (ran (.takeVehicle 0) active).isPending .vehicle = true ∧ (ran (.takeLoad 0) active).isPending .load = true ∧
    (ran (.takeValve 0) active).isPending .valve = true ∧ (ran (.takeRoll 0) active).isPending .roll = true ∧
    (ran (.takeAir 0) active).isPending .air = true ∧
    (ran (.takeTyre 0) (receiving 3 active)).isPending .tyre = true := by decide +kernel

/-- R147: a TYRE table of zeros is clamped in four fields and taken at once; R146 reports field 9 for an identity of 0. -/
theorem test_tyre_take :
    (let t := ran (.takeTyre 0) active
     t.isPending .tyre = false ∧ t.xpt.reports.tyre = { result := .acceptedClamped, detail := 4, count := 1 } ∧
     t.atc.pending.take = true) ∧
    (ran (.takeTyre 0) (active.store8 0x0520 [1])).xpt.reports.tyre.result = .refused ∧
    (ran (.takeTyre 0) (active.store8 0x0520 [1])).xpt.reports.tyre.detail = 9 := by decide +kernel

/-- A WRITE of TAKE in TakeRequests: two bits with bit 9, REPORT among others, and bits 9 to 15 alone. -/
theorem test_take_writes :
    (let t := ran (writeTo 0x3FFA [0x05, 0x02]) active
     t.isPending .vehicle = true ∧ t.isPending .slip = true ∧ t.isPending .load = false ∧ t.mem = active.mem) ∧
    (let t := ran (writeTo 0x3FFA [0xA2, 0x01]) active
     t.isPending .load = true ∧ t.isPending .clearFaults = true ∧ t.isPending .tyre = false ∧ t.isPending .report = false ∧
     t.xpt.reports.tyre.count = 1 ∧ t.xpt.reports.report.count = 1 ∧ Memory.byte t.mem 0x1401 = 5) ∧
    ran (writeTo 0x3FFA [0, 0xFE]) active = active := by decide +kernel

/-- The clauses of ReportTake: a warning level of 32 and of 33, and every bit of the kind enables word set (log 41). -/
theorem test_report_take :
    let at_ := fun (n : Nat) => ran (.takeReport 0) (active.store8 0x0700 (bytes32 0xFFFFFFFF ++ bytes32 n))
    (at_ 32).jrw.group = { kinds := 0x3FFE, warningLevel := 32 } ∧
    (at_ 32).xpt.reports.report = { result := .accepted, detail := 0, count := 1 } ∧
    (at_ 33).xpt.reports.report = { result := .acceptedClamped, detail := 1, count := 1 } ∧
    Memory.half (at_ 32).mem 0x13D2 = 0x3FFE ∧ Memory.half (at_ 32).mem 0x13D4 = 32 ∧
    (at_ 33).jrw.group.warningLevel = 32 ∧ (at_ 32).isPending .report = false := by decide +kernel

/-! ### The journal -/

/-- Section 11.4.1: W at 1000 and the release count as the host wrote it. -/
def full (rel : Nat) (drops : Nat) : State :=
  let s := active.store8 0x0810 (bytes16 rel)
  { s with jrw := { s.jrw with w := 1000, rel := 936, drops := drops }.recount }

theorem witness_RecordHanded : (full 936 0).journalLaw ∧ (full 936 0).jrw.group.enables .take = true := by
  refine ⟨⟨?_, ?_, ?_, ?_⟩, ?_⟩ <;> decide +kernel

/-- Table 11.5, and the clauses of RecordHanded: free 0, 1 and 2 or more, with and without drops; a release value that
lies beyond W. -/
theorem test_journal :
    let r := takeRecord .slip .reset
    ((full 936 0).hand r).jrw.drops = 1 ∧ ((full 936 0).hand r).health.journalDrop = true ∧
    (let t := (full 937 2).hand r
     t.jrw.w = 1001 ∧ t.jrw.drops = 0 ∧ Memory.byte t.mem 0x1680 = 14 ∧ Memory.word t.mem 0x1688 = 3 ∧
     t.headStamp .journal = ((full 937 2).judgeRoom.headStamp .journal + 2) % 65536) ∧
    (let t := (full 944 2).hand r
     t.jrw.w = 1002 ∧ Memory.word t.mem 0x1688 = 2 ∧ Memory.byte t.mem 0x1690 = 12) ∧
    ((full 937 0).hand r).jrw.w = 1001 ∧
    ((full 2000 0).judgeRoom).jrw.ignored = 1 ∧ ((full 1001 0).judgeRoom).jrw.rel = 936 ∧
    ((full 1000 0).judgeRoom).jrw.free = 64 ∧ ((full 935 0).judgeRoom).jrw.ignored = 1 := by decide +kernel

/-! ### The records of an event -/

/-- The records in the journal: kind, subject, info, value A and value B of each. -/
def records (t : State) : List (List Nat) :=
  (List.range t.jrw.w.toNat).map (fun k =>
    let x := 0x1400 + 16 * k
    [(Memory.byte t.mem x).toNat, (Memory.byte t.mem (x + 1)).toNat, Memory.half t.mem (x + 2), Memory.word t.mem (x + 8),
      Memory.word t.mem (x + 12)])

/-- A part with LEFT in HOLD. -/
def holding (s : State) : State := s.setSlip .left ((inEpisode .hold 359 1641).slip .left)

/-- LduPeriodFrame's records: freshness lost and regained, a mismatch declared and cleared, and a VEHICLE take that enters
ACTIVE. -/
theorem test_demand_records :
    records (ldu (ageing 50)) = [] ∧ records (ldu (ageing 51)) = [[1, 0, 1, 1, 400]] ∧
    records (ldu (active.setDemand { active.ldu.demand with freshness := .stale .timeout })) = [[2, 0, 0, 0, 400]] ∧
    records (ldu (mismatched 500)) = [[3, 0, 1, 400, 521]] ∧
    records (ldu (active.setDemand { active.ldu.demand with mismatch := true, mismatchStart := some 0 })) =
      [[3, 0, 0, 400, 390]] ∧
    records (ldu (configuring 1 0)) = [[12, 0, 1, 0, 1], [13, 0, 0x0102, 0, 0]] := by decide +kernel

/-- A source that becomes NONE in FreshnessAndSource and LduPeriodFrame: the episode of LEFT closed before DEMAND_STALE,
and both sections rewritten. -/
theorem test_source_none_records :
    let t := ldu (holding ((ageing 51).setEntry .pc .reset))
    records t = [[4, 1, 0x0204, 640, 486 * 65536 + 270], [1, 0, 1, 2, 400]] ∧
    Memory.half t.mem 0x0F80 = 1 ∧ Memory.half t.mem 0x0F84 = 1 ∧ Memory.half t.mem 0x0EC0 = 1 := by decide +kernel

/-- The lift records of LduPeriodFrame: a raise completed and aborted, a lowering completed, the last LIFT grant, and a
FIXED axle, which has none. -/
theorem test_lift_records :
    (let s := light 780
     records (ldu (lifted .raising 20 s)) = [[7, 0, 0x0100, 500, 0]] ∧
     records (ldu { s with aac := { s.aac with lift := { s.aac.lift with current := 1 } } }) =
       [[10, 1, 1, 0, 6 * 65536 + 780]]) ∧
    records (ldu (lifted .raising 21 active)) = [[7, 0, 0x0102, 500, 0]] ∧
    records (ldu (lifted .lowering 60 active)) = [[7, 0, 0x0200, 500, 0]] ∧
    (let s := lifted .lowering 60 active
     records (ldu { s with ldu := { s.ldu with vehicle := some { vehicle with kind := .fixed } } }) = []) := by
  decide +kernel

/-- A part whose VEHICLE group fits no wheel end on the left behind A1. -/
def unfitted (s : State) : State :=
  { s with ldu := { s.ldu with vehicle := some { vehicle with fitted := ⟨true, true, false, true, false, true⟩ } } }

/-- WindowFrame's records: an open circuit with the speed found, a zero-speed fault and a recovery, and an episode that
closes by release, at low speed and for want of a wheel. -/
theorem test_window_records :
    records (ran (.windowExpiry 0 { closed with a2l := Circuit.opened }) toothed) = [[11, 2, 0x0201, 1998, 1000]] ∧
    records (window (still (1000 - 2000) 500)) = [[11, 2, 0x0202, 0, 500]] ∧
    records (window (recovering 0 7)) = [[11, 2, 0x0203, 1998, 992]] ∧
    (let s := inEpisode .rebuild 359 1641
     records (window (s.setDemand { s.ldu.demand with d := 0 })) = [[4, 1, 0x0201, 640, 486 * 65536 + 270]]) ∧
    records (window (holding (active.setDemand { active.ldu.demand with d := 500 }))) = [] ∧
    (let s := holding (still 1 140)
     records (window (s.setDemand { s.ldu.demand with d := 500 })) = [[4, 1, 0x0202, 640, 486 * 65536 + 270]] ∧
     records (window (unfitted s)) = [[4, 1, 0x0203, 640, 486 * 65536 + 270]]) := by decide +kernel

/-- ReferenceSpeedAndSlip at a window that declares ZERO_SPEED: A2L counts there, and keeps the slip of step 7. -/
theorem test_window_reference :
    let t := window (still (1000 - 2000) 500)
    (t.wheel .a2l).included = false ∧ t.wsu.includedCount = 6 ∧ t.wsu.candidate = 500 ∧ (t.wheel .a2l).slip = 1000 ∧
    (window t).wsu.vref = 500 ∧ ((window toothed).wheel .a3l).slip = 1000 ∧ ((window toothed).wheel .a2l).slip = 0 := by
  decide +kernel

/-- The MDU records: TRACKING with the episode it closes (ValvePeriod), a first and a second driver fault (DriverReport),
CLEAR_FAULTS (ClearFaults), and a Pd fault (StaleTimerDeclaresFault). -/
theorem test_modulator_records :
    records (ran (.valvePeriodExpiry 0) (holding (tracking 0 0 (targeted 363)))) =
      [[4, 1, 0x0204, 640, 486 * 65536 + 270], [11, 2, 0x0306, 0, 262]] ∧
    records (ran (.driverReport 0 .right .outlet .short) (faulted .ok)) =
      [[11, 1, 0x0301, 0, 262], [11, 2, 0x0304, 1, 262]] ∧
    records (ran (.valvePeriodExpiry 0) (faulted .ok)) =
      [[11, 1, 0x0301, 0, 262], [11, 1, 0x0310, 1, 262], [11, 2, 0x0310, 0, 262], [12, 8, 1, 0, 1]] ∧
    (let s := holding (sensing .pdRight .stale)
     records (ran (.staleTimerExpiry 0 .pdRight) s) =
       [[11, 7, 0x0101, 0, (s.pd .right).toNat], [4, 1, 0x0204, 640, 486 * 65536 + 270],
         [11, 2, 0x0305, 0, (s.pd .right).toNat]]) := by decide +kernel

/-- The records of RolloverStages: the last TEST grant, a BRAKE entry with a raise aborted, and a test that ends. -/
theorem test_rollover_records :
    (let s := staged .watch 262 0 0 0
     records (evaluation { s with aac := { s.aac with test := { s.aac.test with current := 1 } } }) =
       [[10, 0, 1, 0, 20 * 65536 + 780], [5, 2, 0x0102, 262, 319 * 65536 + 2]]) ∧
    records (evaluation (lifted .raising 15 (curve 319))) =
      [[7, 0, 0x0102, 500, 0], [5, 2, 0x0003, 319, 319 * 65536 + 4]] ∧
    records (evaluation (testing 700)) = [[6, 1, 0x0100, 300, 0], [5, 2, 0x0201, 281, 319 * 65536 + 3]] ∧
    records (evaluation (testing 701)) = [] := by decide +kernel

/-- The records of ReservoirSample: AIR_LEVEL, an AIR take, and a reload that changes the TEST count alone. -/
theorem test_air_records :
    (let unit := { active with sfe := { active.sfe with trims := { active.sfe.trims with pres := ⟨0, 4096⟩ } } }
     records (ran (.sampleCompletion 0 .pres 349) unit) = [[9, 0, 1, 349, 350]] ∧
     records (ran (.sampleCompletion 0 .pres 350) unit) = []) ∧
    records (ran (.sampleCompletion 0 .pres 500) (airing 3 (spent 900))) =
      [[10, 0, 3, 3, 3 * 65536 + 500], [10, 1, 3, 6, 6 * 65536 + 500], [12, 6, 1, 0, 1]] ∧
    records (ran (.sampleCompletion 0 .pres 700) (spent (1000 - 60000))) = [[10, 0, 2, 20, 20 * 65536 + 700]] := by
  decide +kernel

/-! ### The laws: a state that has each law and a step from it -/

/-- The active part with a sample of Pc waiting. -/
def queued : State := { active with pending := [.sampleCompletion 5 .pc 400] }

theorem witness_step_answers : ∃ t, step queued = .next t := ⟨_, rfl⟩

theorem witness_MemoryStaysCanonical : queued.memoryCanonical :=
  ⟨by decide +kernel, fun _ h => by cases h⟩

theorem witness_AttentionAndJournalLawsKept :
    queued.attentionLaw ∧ queued.levelSourceLaw ∧ queued.journalLaw ∧ queued.conditionLaw := by
  refine ⟨?_, ?_, ?_, ?_⟩
  · rw [State.attentionLaw, ← Atc.selected_isSome]; decide
  · unfold State.levelSourceLaw; decide
  · unfold State.journalLaw; decide
  · refine ⟨?_, ?_, ?_⟩ <;> decide

theorem witness_ModeAndSlipLawsKept : queued.modeLaw ∧ queued.slipLaw := by
  refine ⟨active_modeLaw, ?_⟩
  · intro c; cases c <;> (refine ⟨?_, ?_, ?_, ?_, ?_⟩ <;> decide)

theorem witness_LiftAndRolloverLawsKept : queued.liftLaw ∧ queued.rolloverLaw := by
  refine ⟨⟨?_, ?_, ?_⟩, ?_, ?_, ?_, ?_, ?_⟩
  · unfold State.liftValveLaw; decide
  · intro _; decide
  · intro h; revert h; decide
  all_goals decide

theorem witness_AllowanceAndTargetLawsKept : queued.allowanceLaw ∧ queued.targetLaw := by
  refine ⟨?_, ⟨?_, ?_, ?_⟩, ?_⟩
  · unfold State.allowanceLaw; decide
  · intro v h; cases h; decide
  · intro h; cases h
  · decide
  · decide

theorem witness_TyreAndWheelLawsKept : queued.rosterLaw ∧ queued.receiverLaw ∧ queued.wheelLaw := by
  refine ⟨⟨rfl, ?_⟩, ⟨?_, ?_, ?_⟩, ?_⟩
  · intro i j hi hj
    have free : ∀ i, i < 12 → (queued.slot i).occupied = false := by decide
    simp [free i hi]
  · decide
  · decide
  · decide
  · intro w; cases w <;> (refine ⟨?_, ?_, ?_, ?_⟩ <;> decide)

end

end Sys2Proof.Tests
end

-- ==== Proofs of the scope statements (00_scope.md) ====
section
/-! PROOFS. The commands as a whole: each answers a next state, and what that state keeps of the queue, the trim store and
the time. Both halves rest on the frame lemmas of Laws/State.lean and Laws/Frames.lean. -/

namespace Sys2Proof.Machine

/-- The queue and the trim store are no block's, and the time starts again at 0. -/
@[simp] theorem State.blocksReset_surroundings (s : State) :
    s.blocksReset.pending = s.pending ∧ s.blocksReset.store = s.store ∧ s.blocksReset.uptime = 0 :=
  ⟨rfl, rfl, rfl⟩

/-- R14, R167: a reset's command answers a state at time 0. -/
theorem exec_next_of_isReset {c : Instr} (h : isReset c = true) (s : State) :
    ∃ t, exec c s = .next t ∧ t.pending = s.pending ∧ t.store = s.store ∧ t.uptime = 0 := by
  cases c with
  | powerOnReset dt => exact ⟨(s.elapse dt).powerOn, rfl, by simp [State.powerOn]⟩
  | nresetAsserted dt => exact ⟨(s.elapse dt).assertReset, rfl, by simp [State.assertReset]⟩
  | nresetReleased dt => exact ⟨(s.elapse dt).releaseReset, rfl, by simp [State.releaseReset]⟩
  | _ => cases h

/-- A command that lets its time pass and then does work that leaves the queue, the trim store and the time alone answers
a state in which only its own time has passed. -/
theorem exec_next_of_work {c : Instr} {s : State} (work : State → State)
    (run : exec c s = .next (work (s.elapse (commandTime c))))
    (keeps : ∀ u, (work u).pending = u.pending ∧ (work u).store = u.store ∧ (work u).uptime = u.uptime) :
    ∃ t, exec c s = .next t ∧ t.pending = s.pending ∧ t.store = s.store ∧ t.uptime = s.uptime + commandTime c :=
  ⟨_, run, keeps (s.elapse (commandTime c))⟩

/-- R1, log 1: every command but a reset's is of that kind: its work is that of the block it reaches, and no block touches
the queue, the trim store or the time. -/
theorem exec_next_of_not_isReset {c : Instr} (h : isReset c = false) (s : State) :
    ∃ t, exec c s = .next t ∧ t.pending = s.pending ∧ t.store = s.store ∧ t.uptime = s.uptime + commandTime c := by
  cases c with
  | powerOnReset | nresetAsserted | nresetReleased => cases h
  | loadCompletion => exact exec_next_of_work State.loadCompleted rfl (by simp)
  | sampleCompletion _ i n => exact exec_next_of_work (·.sampleCompleted i n) rfl (by simp)
  | staleTimerExpiry _ i => exact exec_next_of_work (·.staleTimerExpired i) rfl (by simp)
  | recoveryTimerExpiry _ i => exact exec_next_of_work (·.recoveryTimerExpired i) rfl (by simp)
  | sfeSectionTimerExpiry => exact exec_next_of_work State.sectionTimerExpired rfl (by simp)
  | lduPeriodExpiry => exact exec_next_of_work State.lduPeriodExpired rfl (by simp)
  | moveTimerExpiry => exact exec_next_of_work State.moveTimerExpired rfl (by simp)
  | windowExpiry _ x => exact exec_next_of_work (·.windowExpired x) rfl (by simp)
  | edgeArrival _ w => exact exec_next_of_work (·.edgeArrived w) rfl (by simp)
  | dumpOutletOpening _ k => exact exec_next_of_work (·.openWaiting k true) rfl (by simp)
  | holdTimerExpiry _ k => exact exec_next_of_work (·.holdTimerExpired k) rfl (by simp)
  | stepTimerExpiry _ k => exact exec_next_of_work (·.stepTimerExpired k) rfl (by simp)
  | valvePeriodExpiry => exact exec_next_of_work State.valvePeriodExpired rfl (by simp)
  | pulseOpening _ k => exact exec_next_of_work (·.openWaiting k false) rfl (by simp)
  | pulseEnd _ k => exact exec_next_of_work (·.pulseEnded k) rfl (by simp)
  | driverReport _ k v i => exact exec_next_of_work (·.driverReported k v i) rfl (by simp)
  | evaluationExpiry => exact exec_next_of_work State.evaluationExpired rfl (by simp)
  | characterArrival _ b p q => exact exec_next_of_work (·.characterArrived b p q) rfl (by simp)
  | gapTimerExpiry => exact exec_next_of_work State.gapTimerExpired rfl (by simp)
  | cdDeasserted => exact exec_next_of_work State.carrierLost rfl (by simp)
  | cdAsserted => exact exec_next_of_work State.carrierFound rfl (by simp)
  | silenceScan => exact exec_next_of_work State.scanExpired rfl (by simp)
  | read _ b bs e | write _ b bs e => exact exec_next_of_work (·.portPart b bs e) rfl (by simp)
  | healthRead => exact exec_next_of_work (·.readRegister .health) rfl (by simp)
  | attnPoll => exact exec_next_of_work (·.readRegister .attnPoll) rfl (by simp)
  | attnEnd _ v => exact exec_next_of_work (·.writeRegister .attnEnd v) rfl (by simp)
  | attnMaskWrite _ v => exact exec_next_of_work (·.writeRegister .attnMask v) rfl (by simp)
  | registerWriteIgnored _ r v => exact exec_next_of_work (·.writeRegister (namedRegister r) v) rfl (by simp)
  | takeVehicle => exact exec_next_of_work (·.writeRequest .vehicle) rfl (by simp)
  | takeLoad => exact exec_next_of_work (·.writeRequest .load) rfl (by simp)
  | takeSlip => exact exec_next_of_work (·.writeRequest .slip) rfl (by simp)
  | takeValve => exact exec_next_of_work (·.writeRequest .valve) rfl (by simp)
  | takeRoll => exact exec_next_of_work (·.writeRequest .roll) rfl (by simp)
  | takeTyre => exact exec_next_of_work (·.writeRequest .tyre) rfl (by simp)
  | takeAir => exact exec_next_of_work (·.writeRequest .air) rfl (by simp)
  | takeReport => exact exec_next_of_work (·.writeRequest .report) rfl (by simp)
  | takeClearFaults => exact exec_next_of_work (·.writeRequest .clearFaults) rfl (by simp)

end Sys2Proof.Machine

open Sys2Proof.Machine

/-- Settles O2: a reset restarts the time, and every other command moves it by its own time. -/
theorem everyCommandCompletes : Obligations.EveryCommandCompletes := by
  intro c s
  cases h : isReset c with
  | true => simpa using exec_next_of_isReset h s
  | false => simpa using exec_next_of_not_isReset h s
end
